-- ==== Sys2Proof/Word.lean ====
section
/-! DEFINITION. The word types of the Moador register space and packets (spec/00_scope.md, R8 and the notation
tables) and the two container types of the state: a table sorted by key. -/

namespace Sys2Proof

/-- A byte of a memory, packet or image. -/
abbrev Byte := BitVec 8
/-- A 16-bit field: EIDs (R249), counts (R278), container tags (R385). -/
abbrev W16 := BitVec 16
/-- A register word (R9, R414). -/
abbrev W32 := BitVec 32
/-- A 64-bit counter or stamp (R73, R229). -/
abbrev W64 := BitVec 64
/-- An instruction word (R134) or an accumulator integer (R35). -/
abbrev W128 := BitVec 128

/-- A table by key: pairs with strictly rising keys. A key that is not listed holds the default that its reader
names (the value after reset). -/
abbrev Tab (α : Type) := List (Nat × α)

end Sys2Proof
end

