-- ==== Sys2Proof/Syntax.lean ====
section
/-! DEFINITION. The commands of a Moador module: one constructor of `Instr` for each row of spec/opcode_table.json,
with the operands the row's rule gives it. A quay instruction names only its quay: its 128 bits stand in the quay's
logbook at the program counter (R134, R162). Bytes that the module reads from host memory, and what a far end or a
sensor presents, are operands, for they lie outside the module. -/

namespace Sys2Proof

/-- Requester classes of register accesses (R442). -/
inductive Req where
  | host
  | pilot
  | smbus
deriving DecidableEq, Repr, Inhabited

/-- What a read of host memory returned: the bytes, or `none` for an error status, poison or timeout (R433). -/
abbrev HostRead := Option (List Byte)

/-- A nested route header (R241). -/
structure RouteHdr where
  eid : W16
  rsv : BitVec 80
  crc : W32
deriving DecidableEq, Repr, Inhabited

/-- The end-to-end trailer (R242). -/
structure Trailer where
  ecrc : W32
  rsv : W32
deriving DecidableEq, Repr, Inhabited

/-- A packet as its fields (R239, R241, R242). `rxLen` is the number of bytes received for it as framed (R260). -/
structure Packet where
  typ : BitVec 4
  vc : BitVec 3
  e2e : Bool
  nrh : BitVec 3
  hops : BitVec 5
  dst : W16
  src : W16
  sunit : Byte
  plen : Byte
  tlen : W16
  rcnt : BitVec 4
  rsv10 : BitVec 4
  arg : Byte
  tag : W32
  raddr : W32
  ts : W64
  hcrc : W32
  rhs : List RouteHdr
  payload : List Byte
  trailer : Option Trailer
  rxLen : Nat
deriving DecidableEq, Repr, Inhabited

/-- Where a packet arrives: by a Fider port (R250) or over the mesh from a unit of this module (R239). -/
inductive Ingress where
  | port (p : Nat)
  | mesh
deriving DecidableEq, Repr, Inhabited

/-- What a port found when its ALIGN or RECOVERY ended (R217, R220, R221, R225). -/
structure Trained where
  /-- bit i: lane i came up -/
  lanes : BitVec 8
  /-- bit i: receive lane i inverted -/
  pol : BitVec 8
  reversed : Bool
  /-- skew to the other members of its lashed group, in ns -/
  skew : Nat
deriving DecidableEq, Repr, Inhabited

/-- Why a port in UP drops (R223). -/
inductive DropCause where
  | fecLock
  | uncorrectable
  | partnerRecovery
deriving DecidableEq, Repr, Inhabited

/-- A rail's PMBus readings: none for a transaction that failed twice; `fault`: a fault bit in STATUS_WORD (R331). -/
structure RailReading where
  vout : Option W16
  iout : Option W16
  temp : Option (BitVec 12)
  fault : Option Bool
deriving DecidableEq, Repr, Inhabited

/-- The input monitor's PMBus readings: none for a transaction that failed twice (R331). -/
structure InputReading where
  vin : Option W16
  iin : Option W16
  pin : Option W16
deriving DecidableEq, Repr, Inhabited

/-- Die temperatures of one sample in 1/16 °C: the lowest gain-cell die (R127) and the logic die (R332, R339). -/
structure DieTemps where
  cell : BitVec 12
  logic : BitVec 12
deriving DecidableEq, Repr, Inhabited

/-- The end of a park or unpark: its berth, and the silo's event counts by class (R299, R300, R340). -/
structure SiloEnd where
  berth : Nat
  counts : List Nat
deriving DecidableEq, Repr, Inhabited

/-- Whether a write into host memory succeeds (R285). -/
abbrev HostOk := Bool

/-- The commands, in the order of spec/opcode_table.json. -/
inductive Instr where
  -- quay instructions and waits (R134 to R159, R177)
  | nop (q : Nat)
  | nopHoldEnd (q : Nat)
  | halt (q : Nat)
  | wtide (q : Nat)
  | wtideOffsetReached (q : Nat)
  | waitc (q : Nat)
  | waitcRelease (q : Nat)
  | waitTmo (q : Nat)
  | fence (q : Nat)
  | fenceRelease (q : Nat)
  | pset (q : Nat)
  | padd (q : Nat)
  | cntSet (q : Nat)
  | cntAdd (q : Nat)
  | cntClr (q : Nat)
  | cntGetc (q : Nat)
  | cntGetf (q : Nat)
  | cmpb (q : Nat)
  -- gantries (R146 to R149, R164)
  | mov (q : Nat)
  | gantryStart (q g : Nat)
  | movDone (q g : Nat)
  | sendWrite (q : Nat)
  | sendRead (q : Nat)
  -- cranes (R51 to R73, R142 to R145)
  | mmaOw (q : Nat)
  | mmaAc (q : Nat)
  | mmaLdo (q : Nat)
  | mmaLda (q : Nat)
  | mmaDr (q : Nat)
  | streamBehindTileLoad (q crane : Nat)
  | mmaDone (q crane : Nat)
  -- vector engine (R74 to R103, R466)
  | vch (q : Nat)
  | vcmp (q : Nat)
  | vexp (q : Nat)
  | veStart (q : Nat)
  | veDone (q : Nat)
  -- issue, commands and parameters (R162 to R185, R265)
  | sbOvf (q : Nat)
  | qcmdStop (q : Nat)
  | qcmdResume (q : Nat) (atTide : Bool)
  | qcmdRestart (q : Nat) (atTide : Bool)
  | qcmdReset (q : Nat)
  | quayResetDone (q : Nat)
  | quayDrainDone (q : Nat)
  | logLenWrite (rq : Req) (q : Nat) (data : W32)
  | logStartWrite (rq : Req) (q : Nat) (data : W32)
  | paramWrite (rq : Req) (q i : Nat) (upper : Bool) (data : W32)
  | armingPoint
  | sendRecDrop0 (q : Nat)
  | sendRecDrop1 (q : Nat)
  | craneCntClr (q : Nat)
  | veCntClr (q : Nat)
  | issCntClr (q : Nat)
  | portCntClr (p : Nat)
  | fabCntClr
  -- memory stack (R104 to R133)
  | eccWriteback (space : BitVec 2) (q ofs : Nat)
  | scrubLine (q : Nat)
  | thermSample (temp : DieTemps) (hotCol : BitVec 6)
  | refreshSlot (q : Nat)
  | refreshForced (q : Nat)
  | refreshWindow (w : Nat)
  | refLate (q slot : Nat)
  | zeroContainerDone (q slot : Nat)
  | repairCmdGo (data : W32)
  | repairDone
  | eccLogPop
  | scrubDone (q : Nat)
  -- chart and tide (R186 to R216)
  | chartEn (buf : Bool)
  | switch (buf : Bool)
  | chartStop
  | chartCheckDone
  | checkTmo
  | chartLoadDone (map : HostRead) (stripes : List (HostRead × HostRead))
  | chartStart
  | switchDrainDone
  | chartStopDone
  | tideBoundary
  | phaseStart (counts : List Nat)
  | elasticHold
  | decisionPoint
  | applyPoint
  | extLogPop
  -- Fider ports (R217 to R225, R237)
  | portEnWrite (p : Nat) (en : Bool)
  | reseed (p : Nat)
  | retrain (p : Nat)
  | lashWrite (p : Nat) (size : BitVec 2)
  | partnerDetect (p : Nat) (lanes : BitVec 8)
  | seedDone (p : Nat)
  | eqConverged (p : Nat) (learned : List W32)
  | alignDone (p : Nat) (r : Trained)
  | trainStateTimeout (p : Nat)
  | detectRetry (p : Nat)
  | recoveryAttemptFail (p : Nat)
  | recoveryDone (p : Nat) (r : Trained)
  | linkDrop (p : Nat) (why : DropCause)
  | flitRx (p : Nat) (flit : List Byte) (corrected uncorrectable : Nat)
  -- time base (R229 to R235)
  | tbLoad
  | tbRoleWrite (role : BitVec 2)
  | syncInEdge
  | syncOutPulse
  | syncExchange (frac : Nat)
  | syncReqRx (p : Nat)
  | syncRspRx (p : Nat) (notReady : Bool) (t2 t3 t4 : Int)
  | holdoverTimeout
  | extensionNoticeRx (p : Nat) (boundary : W64) (e : Nat) (stamp : W64) (clamp : Bool)
  | lpiBurst (p : Nat)
  | lpiBeaconRx (p : Nat) (lpi : Bool)
  | wakeFrameRx (p : Nat)
  -- packets (R239 to R265)
  | writeRx (src : Ingress) (k : Packet)
  | readReqRx (src : Ingress) (k : Packet)
  | readRspRx (src : Ingress) (k : Packet)
  | ackRx (src : Ingress) (k : Packet)
  | nackRx (src : Ingress) (k : Packet)
  | quenchRx (src : Ingress) (k : Packet)
  | unquenchRx (src : Ingress) (k : Packet)
  | ctrlWakeRx (src : Ingress) (k : Packet)
  | yewericMessageRx (src : Ingress) (k : Packet)
  | packetForward (src : Ingress) (k : Packet)
  | completionTimeout (unit : Nat) (tag : W32)
  | ackGatherEnd (eid : W16) (sunit : Byte)
  | e2eResend (unit : Nat) (tag : W32)
  | stranded (p : Nat) (tag : W32)
  | quenchRegWrite (k : Nat) (data : W32)
  | flogPop
  -- mailbox and serving (R266 to R301)
  | sqTailWrite (ring : Nat) (data : W32)
  | cqHeadWrite (data : W32)
  | mbReset
  | mbEnWrite (en : Bool)
  | cqHostWrite (hi : Bool) (data : W32)
  | submit (ring : Nat) (desc prompt : HostRead)
  | cancel (ring : Nat) (waiting : List HostRead)
  | park (ring : Nat)
  | unpark (ring : Nat)
  | query (ring : Nat) (ok : HostOk)
  | setPrio (ring : Nat)
  | mbQuench (ring : Nat)
  | mbUnquench (ring : Nat)
  | serveConfig (ring : Nat) (manifest : HostRead)
  | mbNop (ring : Nat)
  | mbWake (ring : Nat)
  | prepWindow (failed : List (Nat × Nat))
  | parkVerified (b : SiloEnd)
  | unparkLoaded (b : SiloEnd)
  | unparkReadFail (b : Nat)
  -- mirroring and lifeboat (R359 to R366)
  | mirrorCopy (b k : Nat) (refused lost : Bool)
  | mirPartnerWrite (data : W32)
  | mirDrop (origin : W16)
  | adoptFetchDone (b : Nat) (whole : Nat)
  | lbArm
  | lbDisarm
  -- Stillwater and slack-water sync (R309 to R319)
  | swWrite (data : W32)
  | swChangeDone
  | swsArm
  | swsDisarm
  | swsClose
  | swsQuietCheck
  | swsDividerRestart
  | swsFifoReset
  | swsMarkerSend
  | swsLatencyFix
  | swsReopen
  | portRealign (p : Nat)
  -- power states (R320 to R328)
  | pwrCmdA0
  | pwrCmdA1
  | pwrCmdS1
  | pwrCmdS2
  | pwrCmdS3
  | sleepEntryDone
  | wakeTimer
  | pinWake (pin : Nat)
  | wakeSlotEnd
  | quayGroupPowerGood (g : Nat)
  | sleepExitDone
  -- supply and breakwater (R329 to R343)
  | avsStep (rail : Nat) (acks : List Bool)
  | avsVdone (rail : Nat)
  | avsTmo (rail : Nat)
  | pmbusPoll (input : InputReading) (rails : List RailReading)
  | estimateWindow (counts : List Nat)
  | capWrite (data : W32)
  | learnReset
  | droop (mv : Nat)
  | droopEnd
  | thermTrip
  | a1GateOffset
  | ageReplan
  | ageMargin (worst : BitVec 4) (margin : BitVec 8)
  | replanDone (offsets : List Nat) (disabled : BitVec 8) (margin : BitVec 8) (worst : BitVec 4)
  | calLoad
  | calCaptureEq
  | calCommit
  | calKeyWrite (data : W32)
  | calCmdDone
  -- disabled-unit map (R350 to R355, R22)
  | retireQuay (q : Nat)
  | retireRouter (r : Nat)
  | retirePort (p : Nat)
  | duPersistDone (ok : Bool)
  | portDistRecomputeDone
  -- silo (R367 to R382)
  | siloCreate
  | siloSeal
  | siloErase
  | siloSaveRepair
  | siloCmdDone
  | siloScrubPass
  | siloScrubPassEnd
  | siloProgFail (sparePct : Byte) (address : W64)
  | slogPop
  -- trust (R392 to R398)
  | installFw (slot : Byte)
  | installKey (slot : Byte) (keyidx : BitVec 2)
  | revokeKey (keyidx : BitVec 2)
  | raiseSvn
  | trustArmWrite (data : W32)
  | debugLockWrite (rq : Req) (data : W32)
  | trustCmdDone
  -- register space (R408 to R447)
  | regWrite (rq : Req) (addr : Nat) (bytes : List (Option Byte))
  | loRead (rq : Req) (addr : Nat) (len : Nat)
  | twoDwRead (rq : Req) (addr : Nat)
  | aliasSet (rq : Req) (addr : Nat) (data : W32)
  | aliasClear (rq : Req) (addr : Nat) (data : W32)
  | aliasToggle (rq : Req) (addr : Nat) (data : W32)
  | blockModeWrite (data : W32)
  | noteMaskWrite (w : Nat) (data : W32)
  | bar2Read (addr len : Nat)
  | bar2Write (addr : Nat) (bytes : List (Option Byte))
  -- host DMA (R428 to R435)
  | dmaEnWrite (c : Nat) (en : Bool)
  | dmaAbort (c : Nat)
  | dmaSkip (c : Nat)
  | dmaRestart (c : Nat)
  | dmaTailWrite (c : Nat) (data : W32)
  | descXfer (c : Nat) (desc data : HostRead)
  | descCall (c : Nat) (desc : HostRead)
  | descJump (c : Nat) (desc : HostRead)
  | descEnd (c : Nat) (desc : HostRead)
  | xferComplete (c : Nat)
  | flr
  | traceEnWrite (en : Bool)
  -- module hardware (R448 to R460)
  | readReg (ofs : W16)
  | writeReg (ofs : W16) (data : W32)
  | smbusReset (arg : Byte)
  | pinCfg (pin fn : Byte)
  | pinParkEnd (pin : Nat)
  | gpioSet (mask level : Byte)
  | strobeInEdge (pin : Nat)
  | pcieLinkTrained (rate : BitVec 4) (width : BitVec 5)
  -- rows without operands stand last: Lean's compiler numbers no constructor above 243 that carries any
  | powerOn
  | pwrEnRise
  | pwrEnFall
  | powerLoss
  | perst
  | smbusWake
  | pinGet
  | strobeTs
  | wlogPop
  | perstDeassert
  | bootRestoreDone
  | refclkLoss
  | tapActivity
deriving DecidableEq, Repr, Inhabited

end Sys2Proof
end

