-- ==== Sys2Proof/Machine/State.lean ====
section
/-! DEFINITION. The state of a Moador module (one Ronsis 9 package with its board): every register, memory, buffer,
queue, counter, mode and pin the spec names, as plain data, and the machine right after a power-on reset.

Registers live in ONE map by key (`regs`; a key is the BAR0 offset of R446, or for quay n the number
0x8000_0000 + n × 0x1_0000 + offset, since the blocks of quay 128 and of the memory stack share one BAR0 block,
entry 6); 64-bit counters live in `c64` under the key of their _LO register (R73). -/

namespace Sys2Proof.Machine

/-! ### Memories and logs -/

/-- A byte memory in canonical form: addresses strictly rising, no byte equal to 0 (entry 2). -/
abbrev Mem := List Host.Cell

/-- The state of a codeword that is not clean (R121): `corrected` still holds a correctable error (R122),
`uncorrectable` does not decode (R109, R123, R131). -/
inductive EccMark where
  | corrected
  | uncorrectable
deriving DecidableEq, Repr, Inhabited

/-- An entry of a 16-entry log FIFO: the stamp of words 0 and 1, and words 2 and 3 (R133, R216, R264, R349, R382). -/
structure LogEntry where
  ts : W64
  w2 : W32
  w3 : W32
deriving DecidableEq, Repr, Inhabited

/-- A repair-table entry (R125, R126): `group` false for a row, true for a column group. -/
structure Repair where
  group : Bool
  die : Nat
  quay : Nat
  index : Nat
deriving DecidableEq, Repr, Inhabited

/-! ### Quays -/

/-- States of a quay (R178); DISABLED is read from the disabled-unit map. -/
inductive QState where
  | reset
  | idle
  | run
  | draining
  | halted
  | faulted
  | stopped
  | scrub
deriving DecidableEq, Repr, Inhabited

/-- What holds issue (R155 to R158, R182). -/
inductive Hold where
  | none
  /-- NOP: qclk still to pass (R158) -/
  | nop (left : Nat)
  /-- HALT waiting as a full FENCE (R158) -/
  | halt
  /-- WTIDE NEXT (R156) -/
  | tideNext
  /-- WTIDE PHASE (R156) -/
  | tidePhase (phase : Nat)
  /-- WTIDE OFFSET (R156) -/
  | tideOffset (ofs : Nat)
  /-- WAITC on counter n, with the qclk that have passed since issue (R155) -/
  | waitc (n : Nat) (target : W32) (tmo elapsed : Nat)
  /-- FENCE with its MASK (R157) -/
  | fence (mask : BitVec 5)
  /-- RESUME or RESTART with AT_TIDE, waiting for the next boundary (R182) -/
  | atTide
deriving DecidableEq, Repr, Inhabited

/-- Which of conditions 2 to 4 of R162 held the instruction at the issue point when it was last tried. -/
inductive Stall where
  | none
  | conf
  | full
  | unit
deriving DecidableEq, Repr, Inhabited

/-- Kinds of scoreboard regions (R165). -/
inductive RKind where
  | apron
  | hold
  | context
  | half
  | acc
deriving DecidableEq, Repr, Inhabited

/-- Issuing units (R163). -/
inductive Unit' where
  | cranes
  | ve
  | gantry (g : Nat)
deriving DecidableEq, Repr, Inhabited

/-- A region: first and last granule of its kind (64 B block or word; half number; row number) and, for accumulator
regions, the crane mask (R165). -/
structure Region where
  kind : RKind
  lo : Nat
  hi : Nat
  cranes : Nat
  write : Bool
deriving DecidableEq, Repr, Inhabited

/-- A live scoreboard entry (R165): a region, its unit, the logbook index and the serial of its instruction. -/
structure SbEntry where
  region : Region
  unit : Unit'
  index : Nat
  id : Nat
deriving DecidableEq, Repr, Inhabited

/-- The five MMA forms (R57). -/
inductive MmaForm where
  | ow
  | ac
  | ldo
  | lda
  | dr
deriving DecidableEq, Repr, Inhabited

/-- A crane instruction in progress (R163): its serial, logbook index, adjusted word and the fields it still needs, and
the tiles whose slots were FILLING when it issued (R56). -/
structure CraneJob where
  id : Nat
  index : Nat
  word : W128
  form : MmaForm
  cranes : List Nat
  /-- first row and rows per crane -/
  m0 : Nat
  rows : Nat
  /-- tiles not yet loaded: tile number and its slot -/
  waiting : List (Nat × Nat)
  half : Nat
  wfmt : Nat
  afmt : Nat
  /-- the activation rows as read at issue: per crane row, the exact bytes of the whole chain -/
  abytes : List (List Byte)
  ascales : List (List Byte)
  anchor : Int
  /-- the data fault that the unit has met and that the instruction's end raises: code and FAULT_INFO (R138 step 6, R123) -/
  fault : Option (Nat × Nat)
  /-- another compute form was on the cranes at some time beside this one, so their compute clocks may coincide (R73) -/
  shared : Bool
deriving DecidableEq, Repr, Inhabited

/-- A VE instruction that waits or runs (R98): the adjusted word, its serial and index, and the bytes latched at issue. -/
structure VeJob where
  id : Nat
  index : Nat
  word : W128
  /-- latched apron bytes, by address (R98) -/
  latched : Mem
  /-- parameter registers sampled at issue (R85) -/
  params : Tab W32
  /-- qclk it runs for without apron stalls, known at its start (R97, R101) -/
  dur : Nat
  /-- the VE has started it (R98) -/
  started : Bool
  /-- qclk since its start that have passed in the model -/
  ran : Nat
  /-- a VCMP whose scan has not ended: the qclk of its start at which it ends, the counter, and its count (R150) -/
  scan : Option (Nat × Nat × W32)
  /-- regions by the qclk of its start in which each is released, where that is before its end (R169, R466) -/
  frees : List (Nat × Region)
deriving DecidableEq, Repr, Inhabited

/-- What the VE has latched for the instruction at the issue point (R98, R162): the instruction by its serial and index, the
apron ranges latched so far, and their bytes. -/
structure VeLatch where
  id : Nat
  index : Nat
  ranges : List (Nat × Nat)
  bytes : Mem
deriving DecidableEq, Repr, Inhabited

/-- A gantry instruction from its issue until its last source read or injection (R163, R164). -/
structure GantJob where
  id : Nat
  index : Nat
  /-- the adjusted word -/
  word : W128
  /-- the gantry has started it (R164) -/
  started : Bool
  /-- a MOV that still has words to write at its destination when it leaves the queue -/
  isMov : Bool
  /-- weight-buffer slots it fills: half, first slot, slot count (R54) -/
  fill : Option (Nat × Nat × Nat)
  /-- the fill or copy was abandoned at an uncorrectable or refused word -/
  failed : Bool
deriving DecidableEq, Repr, Inhabited

/-- States of a weight-buffer slot (R56). -/
inductive SlotState where
  | empty
  | filling
  | full
deriving DecidableEq, Repr, Inhabited

/-- An outstanding packet at its source (R253). -/
structure OutPkt where
  /-- serial of its SEND, or 0 for a device unit -/
  send : Nat
  pkt : Packet
  /-- ACKs still to come (MCAST: MCOUNT) -/
  acks : Nat
  /-- end-to-end re-sends made (R259), and the stamp of the last one -/
  resends : Nat
  lastSent : W64
  /-- quay position it starts from (R18) -/
  start : Nat
deriving DecidableEq, Repr, Inhabited

/-- A SEND in flight (R149, R255). -/
structure SendJob where
  id : Nat
  index : Nat
  gantry : Nat
  write : Bool
  eid : W16
  raddr : W32
  lbase : Nat
  nlen : Nat
  lcnt : Nat
  rcnt : BitVec 4
  vc : BitVec 2
  tagBase : W32
  /-- packets not yet completed, and whether one completed LOST -/
  left : Nat
  lost : Bool
  /-- packets that wait for injection at the limit of R253 -/
  todo : List Packet
deriving DecidableEq, Repr, Inhabited

/-- A failure record of a gantry (R255). `age` counts the tide boundaries since its creation. -/
structure SendRec where
  tagBase : W32
  eid : W16
  raddr : W32
  lbase : Nat
  nlen : Nat
  lcnt : Nat
  rcnt : BitVec 4
  vc : BitVec 2
  age : Nat
deriving DecidableEq, Repr, Inhabited

/-- An accumulator element (R35). -/
structure AccElem where
  a : W128
  ovf : Bool
  inx : Bool
  nf : Bool
deriving DecidableEq, Repr, Inhabited

/-- Why a quay drains (R179). -/
inductive DrainTo where
  | halted
  | faulted
  | stopped
deriving DecidableEq, Repr, Inhabited

/-- The state of one quay outside the register map. -/
structure Quay where
  st : QState
  /-- the program counter of R159; 4,096 is past the last instruction -/
  pc : BitVec 13
  /-- CODE of the last HALT (R185, QSTATE.HCODE) -/
  hcode : W16
  /-- the reason the last stop was a fault, halt or stop -/
  drainTo : DrainTo
  hold : Hold
  stall : Stall
  /-- consecutive qclk held by conditions 2 and 3 (R170) -/
  confHeld : Nat
  /-- program tide PT (R190) and LAG -/
  pt : W64
  lag : BitVec 4
  /-- serial given to the next issued instruction -/
  nextId : Nat
  sb : List SbEntry
  cranes : List CraneJob
  ve : Option VeJob
  veWait : Option VeJob
  /-- what the VE has latched for an instruction that has not issued yet (R162) -/
  latch : Option VeLatch
  gant0 : List GantJob
  gant1 : List GantJob
  /-- MOVs past their last source read, still writing (R164) -/
  moving0 : List GantJob
  moving1 : List GantJob
  sends : List SendJob
  out0 : List OutPkt
  out1 : List OutPkt
  serial0 : BitVec 31
  serial1 : BitVec 31
  recs0 : List SendRec
  recs1 : List SendRec
  /-- weight-buffer slots by 4 × half + slot -/
  slots : Tab SlotState
  /-- weight-buffer bytes: (4 × half + slot) × 2304, 2 KiB of elements then 256 B of scales (R53) -/
  wb : Mem
  /-- accumulator elements by (64 × crane + row) × 64 + column (R68) -/
  acc : Tab AccElem
  /-- row anchors by 64 × crane + row (R68) -/
  anchors : Tab Int
  /-- the VE's private LUT copy (R94) -/
  lut : List Byte
  /-- the batch fixed at the arming point, with MODE and PATCH_AT as sampled (R174) -/
  armed : Option (Tab W32 × BitVec 2 × W16)
  /-- parameter registers that the batch of this qclk's tide boundary has patched: the instruction that issues in it does not
  write them (R152) -/
  patched : List Nat
  /-- clocks gated in A1 (R321) -/
  gated : Bool
deriving DecidableEq, Repr, Inhabited

/-! ### Ports and packets -/

/-- Port states (R221). -/
inductive PState where
  | off
  | detect
  | seed
  | eq
  | align
  | up
  | recovery
  | degraded
deriving DecidableEq, Repr, Inhabited

/-- A flit as it was sent: its FSEQ, IDLE, START and its 242 packet bytes (R243). -/
structure Flit where
  seq : BitVec 12
  idle : Bool
  start : Nat
  body : List Byte
deriving DecidableEq, Repr, Inhabited

/-- The state of one Fider port outside the register map. -/
structure Port where
  st : PState
  /-- failed RECOVERY attempts in a row (R221) -/
  attempts : Nat
  /-- the next training starts from the seeds (R222) -/
  fromSeeds : Bool
  /-- a TRAIN_FAIL waits its 1 ms before DETECT (R221) -/
  failed : Bool
  /-- FSEQ of the next flit sent and of the last flit received in order (R243) -/
  txSeq : BitVec 12
  rxSeq : BitVec 12
  /-- last FSEQ that the partner has acknowledged (R245) -/
  acked : BitVec 12
  /-- flits are discarded until a retransmission arrives (R245) -/
  discarding : Bool
  /-- packet bytes that no flit has taken yet, and the offsets in them at which a packet begins (R243, R244) -/
  txBuf : List Byte
  txMarks : List Nat
  /-- retry buffer: the flits sent and not acknowledged, oldest first, and the packets they end with the FSEQ of the last
  flit of each (R245) -/
  flits : List Flit
  retry : List (BitVec 12 × Packet)
  /-- credits of ingress buffers that are free again and not yet returned, by VC (R243, R244) -/
  owed : Tab Nat
  /-- a flit with packet bytes has arrived that no flit has acknowledged; a NAK waits (R243, R245) -/
  ackDue : Bool
  nakDue : Bool
  /-- data VC served last by the round-robin of flit packing (R246) -/
  lastVc : BitVec 2
  /-- egress queue of packets that wait for a RECOVERY (R251) -/
  egress : List Packet
  /-- ingress buffer of packets held by a QUENCH (R247) -/
  held : List Packet
  /-- credits held, by VC 0 to 4 (R244) -/
  credits : Tab Nat
  /-- bytes of a packet not yet whole at the receiver (R243) -/
  rxPart : List Byte
  /-- whole packets received and not yet taken by a packet command -/
  rxPkts : List (List Byte)
  /-- retries received in the slack window that is open (R192) -/
  retries : Nat
  /-- uncorrectable codewords of the last 10 µs, by the stamp of their arrival (R223) -/
  badSeen : List (W64 × Nat)
  /-- equalisation start values of lanes 0 to 7 that SEED or RECOVERY has loaded, coded as EQ_LANEi (R222) -/
  startEq : List W32
  /-- ALIGN has ended while another member of the group still trains (R225) -/
  trained : Option Trained
  /-- this port is in low-power idle (R324) -/
  lpi : Bool
  /-- TB_NOW when the port last entered UP (R316) -/
  upAt : W64
  /-- WAKE packets that wait for the partner's next burst: source EID, unit and tag of each (R248) -/
  wakeDue : List (W16 × Byte × W32)
  /-- member of the group that takes the next packet, counted from its leader (R225) -/
  turn : Nat
deriving DecidableEq, Repr, Inhabited

/-- A route-table entry: the low halves of its four words (R249). -/
structure Route where
  w0 : W16
  w1 : W16
  w2 : W16
  w3 : W16
deriving DecidableEq, Repr, Inhabited

/-- A deduplication window entry (R257). `done`: its write has completed. -/
structure DedupEntry where
  src : W16
  sunit : Byte
  tag : W32
  time : W64
deriving DecidableEq, Repr, Inhabited

/-- Tags gathered for one ACK packet (R254): the source unit, its tags, the stamp of the first and where it was accepted
(entry 104). -/
structure AckGather where
  eid : W16
  sunit : Byte
  tags : List W32
  since : W64
  start : Nat
deriving DecidableEq, Repr, Inhabited

/-! ### Chart -/

/-- A phase of the tide plan (R188, R189, R201). -/
structure Phase where
  start : Nat
  tokset : Nat
  prefill : Bool
deriving DecidableEq, Repr, Inhabited

/-- A basin (R204). -/
structure Basin where
  quays : List Nat
  tenant : BitVec 12
  elastic : Bool
deriving DecidableEq, Repr, Inhabited

/-- A shard descriptor (R205). -/
structure Shard where
  zero : Bool
  slot : Nat
  keep : Bool
  sofs : Nat
  dst : W32
  len : Nat
deriving DecidableEq, Repr, Inhabited

/-- A logbook record (R206). `code` is the byte offset of its CODE in the image. -/
structure LogRec where
  quay : Nat
  lag : Nat
  len : Nat
  start : Nat
  sbLimit : Nat
  params : List W32
  code : Nat
deriving DecidableEq, Repr, Inhabited

/-- A refresh window (R209). -/
structure Window where
  start : Nat
  slots : Nat
  len : Nat
deriving DecidableEq, Repr, Inhabited

/-- What a chart that passed the check fixes (R198 to R209, R333, R388). The image itself stays in its buffer. -/
structure Chart where
  id : W64
  parent : W64
  sw : Bool
  alternate : Bool
  home : W16
  flood : Nat
  period : Nat
  slackRetry : Nat
  slackTime : Nat
  elasticMax : Nat
  extStep : Nat
  extMax : Nat
  decide : Nat
  phases : List Phase
  basins : List Basin
  shards : List Shard
  logbooks : List LogRec
  /-- offset of the ROUTES section in the image (R202) -/
  routesAt : Nat
  /-- owned EIDs with tenant, from the EIDS section (R388) -/
  eids : List (W16 × BitVec 12)
  /-- static estimates by phase, in W, and token bytes by set and quay (R333) -/
  est : List Nat
  tokens : List (List Byte)
  tokenBytes : Nat
  layers : Nat
  blockMode : BitVec 11
  cto : Nat
  adaptMesh : Bool
  adaptFabric : Bool
  refreshClass : Nat
  windows : List Window
deriving DecidableEq, Repr, Inhabited

/-- A chart submission (R210): the buffer, what CHART_START and SWITCH_AT held, when, and whether it is a switch. -/
structure Submission where
  buf : Bool
  startAt : W64
  switchAt : W64
  enAt : W64
  isSwitch : Bool
  /-- it takes up a switch that LATE refused after its drain (R214) -/
  again : Bool
deriving DecidableEq, Repr, Inhabited

/-- An extension that is held for a boundary (R193). -/
structure Extension where
  boundary : W64
  e : Nat
  remote : Bool
  port : Nat
  clamp : Bool
deriving DecidableEq, Repr, Inhabited

/-! ### Serving -/

/-- Berth states (R268); FREE berths are not listed. -/
inductive BState where
  | queued
  | prefill
  | decode
  | ready
  | parking
  | parked
  | unparking
  | cancelling
  | retiring
  | failed
deriving DecidableEq, Repr, Inhabited

/-- A completion-queue entry that waits to be written (R284). -/
structure CqEntry where
  cmdId : W16
  status : Byte
  kind : Byte
  berth : W16
  opc : Byte
  tag : W64
  count : W32
  detail : W32
  /-- a completion of an SQ1 command, for which 64 places are kept -/
  urgent : Bool
deriving DecidableEq, Repr, Inhabited

/-- A berth record (R267). Containers are CIDs by layer group and block. -/
structure Berth where
  st : BState
  tenant : BitVec 12
  tag : W64
  prio : Nat
  position : Nat
  promptLen : Nat
  promptDone : Nat
  generated : Nat
  token0 : W32
  prompt : List W32
  /-- page table: per layer group the linked containers -/
  pages : List (List W32)
  /-- spill and tree container per layer group -/
  spill : List W32
  tree : List W32
  invTemp : W32
  topK : Nat
  topP : W32
  seed : W32
  stops : List W32
  outAddr : W64
  outCap : Nat
  maxNew : Nat
  notify : Nat
  /-- speculation template, when on -/
  spec : Option Nat
  slot : Option Nat
  /-- silo extents of the parked image, and the linked containers per layer group in it -/
  park : List Nat
  parked : Nat
  /-- the PARK or UNPARK that waits for the berth: its command ID and ring; a DECODE berth with one parks at the next step
  boundary (R280, R299) -/
  cmd : Option (W16 × Nat)
  /-- completions for the berth of commands taken after the one that waits, in order (R281) -/
  after : List CqEntry
  tsSubmit : W64
  tsFirst : W64
  tsLast : W64
  numerr : Nat
  /-- NUMERR carried forward to the next TOKENS event (R289) -/
  carry : Bool
  /-- GENERATED at the last TOKENS event -/
  reported : Nat
  /-- steps the slot has been held, and when the berth began to wait -/
  held : Nat
  since : W64
  /-- containers listed for zeroing and not yet done (R272) -/
  zeroing : List W32
  /-- finish reason for FINISHED (R289) -/
  reason : Nat
  /-- a cancelled berth's containers are listed at this tide index (R296) -/
  releaseAt : Option W64
  /-- KEEP fields of the next row (R293) -/
  keepD0 : Nat
  keepN : Nat
  keepBase : Nat
  /-- records written by the row of the current step -/
  new : Nat
  /-- the berth waits for an adoption fetch (R361): leading containers to fetch -/
  adopting : Option Nat
  /-- leading containers mirrored in every group (R359) -/
  mpos : Nat
  /-- energy of its parks and unparks that the ledger has not taken yet, in 2^−149 pJ (R340) -/
  siloE : Nat
deriving DecidableEq, Repr, Inhabited

/-- An accepted manifest (R271). -/
structure Manifest where
  chartId : W64
  stepTides : Nat
  stepOffset : Nat
  resultTide : Nat
  resultNs : Nat
  nslot : Nat
  pfChunks : Nat
  pfTokens : Nat
  ngroup : Nat
  kmax : Nat
  stepTbl : W32
  resultTbl : W32
  ptMirror : W32
  pfTok : W32
  tmpl : W32
  quantum : Nat
  lowWater : Nat
  parents : List (List Byte)
  tnodes : List Nat
deriving DecidableEq, Repr, Inhabited

/-- A mailbox packet command that waits for its ACK (R280). -/
structure MbWait where
  cmdId : W16
  opc : Byte
  tag : W32
  ring : Nat
deriving DecidableEq, Repr, Inhabited

/-- A mirror record held for another module (R359). -/
structure Mirror where
  origin : W16
  tag : W64
  tenant : BitVec 12
  mpos : Nat
  cids : List W32
deriving DecidableEq, Repr, Inhabited

/-- What a message between pilot cores says of mirrors (R360, R361); its packet is the firmware version's to form (R248). -/
inductive YwMessage where
  | other
  /-- a container is wanted for a mirror of a berth, with its record -/
  | want (origin : W16) (tag : W64) (tenant : BitVec 12) (mpos : Nat)
  /-- the partner's answers: the container that takes the copy, or a refusal -/
  | taken (cid : W32)
  | refused
  /-- mirror containers are lost at the holder -/
  | lost (tag : W64) (cids : List W32)
  /-- a record is released: its berth has finished, or it has been adopted -/
  | release (origin : W16) (tag : W64) (tenant : BitVec 12)
deriving DecidableEq, Repr, Inhabited

/-! ### Silo, trust, power, DMA, pins -/

/-- Silo slot states and record (R371). -/
inductive SiloState where
  | empty
  | opened
  | sealed
  | pool
  | erasing
deriving DecidableEq, Repr, Inhabited

/-- A slot-directory record (R371). -/
structure SiloSlot where
  st : SiloState
  kind : Nat
  base : Nat
  len : Nat
  len1k : Nat
  crc : W32
deriving DecidableEq, Repr, Inhabited

/-- A firmware copy of the silo (R393): its VERSION and SVN, and whether its signature verifies. -/
structure Firmware where
  version : W32
  svn : Nat
  ok : Bool
deriving DecidableEq, Repr, Inhabited

/-- Bit errors that one tclk brings (R121, R380): codewords that come to hold a correctable or an uncorrectable error, by
address, and 4 KiB pages of the silo that stop reading, by page number. -/
structure Upsets where
  marks : List (Nat × EccMark)
  pages : List Nat
deriving DecidableEq, Repr, Inhabited

/-- What the checks of a boot find (R125, R351, R370): map record and slot directory with both copies bad, columns whose repair
record fails, and quays that fail self-test. -/
structure BootFinds where
  mapBad : Bool
  slotsBad : Bool
  colBad : BitVec 144
  testBad : BitVec 144
deriving DecidableEq, Repr, Inhabited

/-- Event counts by class at the end of a tide: of its last phase over the module, and of the tide by quay (R337, R340). -/
structure TideCounts where
  phase : List Nat
  quays : List (List Nat)
deriving DecidableEq, Repr, Inhabited

/-- One-time fuses and identity (R392, R441). -/
structure Fuses where
  /-- grade: enabled-quay count of the part, 136 or 128 -/
  grade : Nat
  stepMaj : Byte
  stepMin : Byte
  board : Byte
  serial : W64
  /-- OWNER_HASH0-3: SHA-384 of the owner keys, where burned -/
  ownerHash : Tab (List Byte)
  revoke : BitVec 4
  svnMin : Nat
  debugFloor : Nat
deriving DecidableEq, Repr, Inhabited

/-- Power states of PWR_STATE (R320, R349). -/
inductive PwrState where
  | a0
  | a1
  | s1
  | s2
  | s3
  | entering
  | exiting
  | trip
deriving DecidableEq, Repr, Inhabited

/-- An AVSBus rail (R330): its voltage, target and the step that waits for VDone, in mV. -/
structure Rail where
  mv : Nat
  target : Nat
  step : Option Nat
deriving DecidableEq, Repr, Inhabited

/-- A DMA channel outside the register map (R428 to R434). -/
structure Chan where
  /-- return addresses of the calling levels, innermost first -/
  stack : List W64
  /-- host address of the next descriptor -/
  next : W64
  /-- a ring entry is being processed, and the descriptors it has run -/
  busy : Bool
  ran : Nat
  /-- the XFER in progress: IRQ and USER -/
  xfer : Option (Bool × W32)
  /-- what the XFER in progress writes in the module: TGT, first address, bytes (R322, R373) -/
  moving : Option (Nat × Nat × Nat)
  /-- the XFER in progress has no way over the mesh: its words are discarded and it does not complete (R17, R18) -/
  lost : Bool
  /-- IRQ and USER of the CALLs that have not completed, innermost first -/
  calls : List (Bool × W32)
deriving DecidableEq, Repr, Inhabited

/-- A bollard pin (R458 to R460). -/
structure Pin where
  fn : Nat
  /-- the function that a parked pin takes, and the aclk time at which it takes it -/
  next : Option (Nat × W64)
  /-- the GPIO_SET level -/
  out : Bool
deriving DecidableEq, Repr, Inhabited

/-- What the module emits. -/
inductive Out where
  /-- a completion of a host or SMBus read -/
  | readDone (data : List Byte)
  /-- a read completed with Completer Abort (R415) -/
  | abort
  /-- an AER Completer Abort message for a discarded write (R415) -/
  | aer
  /-- an SMBus NACK (R457) -/
  | smbNack
  /-- an MSI-X message (R426) -/
  | msix (vec : Nat) (addr : W64) (data : W32)
  /-- a write into host memory -/
  | hostWrite (addr : W64) (bytes : List Byte)
  /-- a packet handed to the flits of a port (R244) -/
  | packet (p : Nat) (k : Packet)
  /-- a flit leaving by a port: its 256 bytes (R243) -/
  | flit (p : Nat) (bytes : List Byte)
  /-- a packet handed to a device unit -/
  | deliver (unit : Nat) (k : Packet)
  /-- time-sync frames (R231, R234, R248, R314); `lpi`: the frame carries the LPI flag, which a beacon and a WAKE frame's
  burst show by what they are -/
  | syncReq (p : Nat) (t1 : Int) (lpi : Bool)
  | syncRsp (p : Nat) (t2 t3 : Int) (notReady lpi : Bool)
  | notice (p : Nat) (boundary : W64) (e : Nat) (lpi : Bool)
  | beacon (p : Nat) (lpi : Bool)
  | wakeFrame (p : Nat) (lpi : Bool)
  | marker (p : Nat)
  /-- sideband pulses: sync-out and STROBE_OUT (R230, R459) -/
  | syncOut
  | strobeOut (pin : Nat)
  /-- an AVSBus voltage write (R330) -/
  | avs (rail mv : Nat)
  /-- a packet handed to Yeweric as a message whose format its firmware version sets (R366) -/
  | yeweric (k : Packet)
  /-- a message that the pilot cores send to another module's (R248, R360) -/
  | message (dst : W16) (m : YwMessage)
  /-- a code that is logged and that no register shows: REPAIR_NOSPARE, REPAIR_RESTORE, DEBUG_DENY (R132, R397) -/
  | logged (code : Nat)
deriving DecidableEq, Repr, Inhabited

/-! ### Faults and refusals -/

/-- Reasons the model stops. The spec gives the module no stop of its own: quay faults are effects on the state. -/
inductive Fault where
  /-- Raised by no command: kept so that a later repair has a fault to name. Safe. -/
  | unused
deriving DecidableEq, Repr, Inhabited

/-- Reasons a command has no meaning. -/
inductive Refusal where
  /-- The command's meaning is not written yet; raised only by `exec`. Safe: nothing is proved of it. -/
  | notModelled (mnemonic : String)
deriving DecidableEq, Repr, Inhabited

/-! ### The module -/

/-- Time base and clocks (R229 to R233). -/
structure Time where
  /-- shift of the tclk edges against the reference clock that steps and slews have made, in 1/16 ns (R232); TB_NOW counts the
  shifted edges, and stamps count from them -/
  phase : Int
  /-- slew still to make, in 1/16 ns (R232) -/
  slew : Int
  /-- parts in 9,000 of a qclk gathered so far in this tclk (a stretched period is 9/8, R338) -/
  frac : Nat
  /-- qclk since the last tide boundary (R154) -/
  qclk : Nat
  /-- consecutive good exchanges, consecutive void ones (R232, R233) -/
  good : Nat
  void : Nat
  /-- departure stamp t1 of the exchange in progress, in 1/16 ns -/
  t1 : Option Int
  /-- TB_NOW at which a sampled sync-in edge loads TB_LOAD (R230) -/
  loadAt : Option W64
  /-- TB_NOW at entry into HOLDOVER, until a valid exchange (R233) -/
  holdSince : Option W64
  /-- ns of the aclk in progress that have passed while the always-on shadow carries TB_NOW (R328) -/
  shadow : Nat
  /-- the tclk of every ten in which an aclk begins: TB_NOW mod 10 there (R315, R460; its value at reset: entry 37) -/
  aclk : Nat
deriving DecidableEq, Repr, Inhabited

/-- Tide sequencer and chart machinery (R186 to R216). -/
structure Tide where
  chart : Option Chart
  /-- the successor of a switch (R214) -/
  succ : Option Chart
  sub : Option Submission
  succSub : Option Submission
  /-- a switch was refused as LATE after its drain: its buffer, and the CHART_ID and container fields of the chart that it was
  to follow (R214) -/
  late : Option (Bool × W64 × Nat × Nat)
  /-- time of the next boundary with E = 0 (R187) -/
  base : W64
  exts : List Extension
  /-- TIDE_VAR sources met in the running tide (R197) -/
  var : BitVec 6
  phase : Nat
  /-- TB_NOW at which the last boundary was raised (R188) -/
  raised : W64
  /-- the boundary is being held since this TB_NOW (R195) -/
  heldSince : Option W64
  /-- the decision point and the apply point of the next boundary have passed (R192, R193) -/
  decided : Bool
  applied : Bool
  /-- the last boundary stopped every quay: no tide runs (R213, R214) -/
  ended : Bool
  /-- quays whose tenant the load in progress changes (R384) -/
  changed : List Nat
  /-- load of the submitted chart is complete (R212) -/
  loaded : Bool
  /-- stripes of the armed fill that failed, the map's CHART_ID mismatch and the like stop the load (R364, R373) -/
  loadFailed : Bool
deriving DecidableEq, Repr, Inhabited

/-- Memory stack outside the register map (R104 to R133). -/
structure Stack where
  mem : Mem
  logbook : Mem
  /-- bad codewords: stack address of the first byte, or 2^40 + logbook address -/
  ecc : Tab EccMark
  repairs : List Repair
  /-- slots listed with the zero engines (R119) -/
  zero : List W32
  /-- per column the next scrub line: hold and context (R124) -/
  scrub : Tab (Nat × Nat)
  /-- repairs that are being copied into their spares, oldest first (R126) -/
  repairing : List Repair
  /-- since when the temperature is at least 3 °C below 85 °C and below 95 °C (R127) -/
  cool1 : Option W64
  cool2 : Option W64
  /-- container tags by quay × 65536 + slot (R385) -/
  tags : Tab W16
  /-- TOKEN_BYTES × LAYERS × 64 in force, or 0 (R116) -/
  container : Nat
deriving DecidableEq, Repr, Inhabited

/-- How far a slack-water sync has come (R314): `quiet` and `busy` are the outcomes of its quiet check. -/
inductive SwsStage where
  | off
  | closed
  | quiet
  | busy
  | restarted
  | fifos
  | marked
  | fixed
deriving DecidableEq, Repr, Inhabited

/-- Fabric state of the module (R239 to R265). -/
structure Fabric where
  routes : Tab Route
  /-- home EID, owned EIDs with their tenants, completion timeout in µs and adaptive flags, as the last chart load left
  them (R203, R208, R388) -/
  home : W16
  eids : List (W16 × BitVec 12)
  cto : Nat
  adaptMesh : Bool
  adaptFabric : Bool
  /-- packets on the way over the mesh to a unit of this module (R16; which of them arrives next: entry 104) -/
  mesh : List Packet
  /-- READ_RSP packets of this module of which its egress keeps a copy (R259) -/
  copies : List OutPkt
  windows : List DedupEntry
  gathers : List AckGather
  /-- outstanding packets of the pilot cores, and their tag serial -/
  pilotOut : List OutPkt
  pilotSerial : W32
  /-- the armed slack-water sync and its edge, taken at ARM (R314, R315) -/
  sws : SwsStage
  swsAt : W64
deriving DecidableEq, Repr, Inhabited

/-- Yeweric's serving state (R266 to R301, R359 to R361). -/
structure Serve where
  manifest : Option Manifest
  /-- the manifest of the chart that a switch replaced, while berths may still keep their slots (R301) -/
  former : Option Manifest
  berths : Tab Berth
  /-- berth IDs that have finished, for MB_ALREADY (R295) -/
  finished : List (Nat × W64)
  /-- containers free in the pool are those of the chart not listed here -/
  used : List W32
  /-- completions that wait for CQ room (R284) -/
  cq : List CqEntry
  waits : List MbWait
  /-- step whose rows were written last -/
  step : Nat
  /-- queued SUBMIT entries that are void, by SQ0 entry number, and the TAG that voided each (R294) -/
  voids : List (Nat × W64)
  /-- active rows of the step in `step`: slot, berth, copy (R277) -/
  rows : List (Nat × Nat × Nat)
  mirrors : List Mirror
  /-- consecutive lost mirror copies (R360) -/
  mirLost : Nat
deriving DecidableEq, Repr, Inhabited

/-- Silo controller and trust state (R367 to R398). -/
structure Silo where
  mem : Mem
  slots : Tab SiloSlot
  /-- the command in progress: 1 CREATE, 2 SEAL, 3 ERASE, 4 SAVE_REPAIR, with its slot, LEN1K and CRC -/
  cmd : Option (Nat × Nat × Nat × W32)
  /-- pages that read uncorrectable, by silo address of a 4 KiB page (R380) -/
  badPages : List Nat
  /-- extents of the POOL slot in use -/
  pool : List Nat
  /-- bucket level in bytes at the TB_NOW beside it (R378) -/
  bucket : Int
  bucketAt : W64
  passAt : W64
  fwA : Firmware
  fwB : Firmware
  /-- copy B runs (R393) -/
  runB : Bool
  /-- the repair table and the map as saved in records (R370) -/
  savedRepairs : List Repair
  /-- the ageing record: AGE_OFS and the points disabled (R343) -/
  savedAge : W32 × BitVec 8
  savedQen : BitVec 144
  savedQspare : BitVec 144
  savedRbad : BitVec 144
  savedPbad : W16
  /-- quays ENABLED and SPARE as the next map record will say: the live map but for what one boot put in place of unusable quays
  (R351, R352) -/
  recQen : BitVec 144
  recQspare : BitVec 144
  /-- owner public keys, kept as a record (R392) -/
  keys : Tab (List Byte)
  /-- TB_NOW until which TRUST_ARM and CAL_KEY arm (R394, R346) -/
  trustArm : Option W64
  /-- the TRUST_CMD in progress: OP, SLOT, KEYIDX -/
  trustCmd : Option (Nat × Nat × Nat)
  /-- slots that were OPEN at a power loss that no boot has reported (R373) -/
  lost : Option (List Nat)
deriving DecidableEq, Repr, Inhabited

/-- Power controller state (R320 to R349). -/
structure Power where
  st : PwrState
  /-- state in which a transition began, and its target -/
  from' : PwrState
  target : PwrState
  /-- A1 or A0 wanted at the next boundary (R322) -/
  a1Next : Option Bool
  /-- latch counts by source 1 to 5 (R326) -/
  latches : Tab Nat
  latched : Option (Nat × W64)
  /-- steps of an exit so far: 0 in the slot delay, then 1 and the groups that are power-good (R327) -/
  groups : Nat
  /-- steps 2 and 3 of an entry made so far (R323) -/
  entry : Nat
  /-- rails that do not stand at their operating voltage: AVSBus rails 0 to 2, 3 VSER, 4 VAUX, 5 VAON, 6 and 7 VNAND (R329) -/
  rails : Tab Rail
  /-- window estimates of the last 500 windows, newest first, in 0.1 W (R332) -/
  windows : List Nat
  overSince : Option W64
  underSince : Option W64
  /-- when the emergency limit, still met, last lowered the point (R336) -/
  emergAt : Option W64
  /-- points below the planned one that the emergency limit has taken (R336) -/
  lowered : Nat
  capStaged : Option (BitVec 11)
  /-- CHART_ID whose phases the L_k are of (R337) -/
  learnedFor : W64
  /-- largest m_k of the learning tides, by phase (R337) -/
  maxM : Tab Nat
  stretch : Bool
  /-- calibration: live set, staging, key and command (R344, R346) -/
  calLive : Mem
  calStage : Mem
  calKey : Option W64
  calCmd : Option Nat
  calNext : Option Mem
  replan : Bool
  ageLogged : Bool
  /-- logic-die temperature at the last sample, in 1/16 °C (R332, R339) -/
  logicTemp : BitVec 12
  /-- since when both dies have been 10 °C below their trip points (R339) -/
  coolSince : Option W64
  /-- energies in 2^−149 pJ: event energy of the phases of the running tide that have ended, silo energy of parks and unparks
  in it, and what tenants and UNATTR have received and the ledgers not yet taken (R340, R341) -/
  spent : Nat
  siloSpent : Nat
  energy : Tab Nat
  unattr : Nat
deriving DecidableEq, Repr, Inhabited

/-- Always-on island pins and reset inputs (R448 to R460). -/
structure Board where
  pins : Tab Pin
  strobe : W64
  pwrEn : Bool
  pwrGood : Bool
  perst : Bool
  msixOn : Bool
  booted : Bool
  inReset : Bool
  tapDenied : Bool
deriving DecidableEq, Repr, Inhabited

/-- The state of the module. -/
@[ext]
structure State where
  /-- registers by key; an unlisted key holds its reset value -/
  regs : Tab W32
  /-- 64-bit counters, stamps and RO pairs by the key of _LO (R73) -/
  c64 : Tab W64
  /-- _HI latches: class × 2^34 + key of _LO (R442) -/
  latch : Tab W32
  /-- pending values of RWS registers by key (R174, R422) -/
  staged : Tab W32
  /-- LK registers that are locked, by key (R423) -/
  locked : List Nat
  quays : Tab Quay
  ports : Tab Port
  chans : Tab Chan
  time : Time
  tide : Tide
  stack : Stack
  fabric : Fabric
  serve : Serve
  silo : Silo
  power : Power
  board : Board
  fuses : Fuses
  /-- disabled-unit map (R350): enabled, spare, bad routers, retired ports -/
  qen : BitVec 144
  qspare : BitVec 144
  rbad : BitVec 144
  pbad : W16
  /-- PORT_DIST registers are valid (R22) -/
  distValid : Bool
  chartBuf : Mem
  /-- mailbox rings and ledgers, by BAR0 offset (R278) -/
  windows : Mem
  eccLog : List LogEntry
  extLog : List LogEntry
  fabLog : List LogEntry
  wakeLog : List LogEntry
  siloLog : List LogEntry
  /-- what the module has emitted, newest last -/
  out : List Out
  /-- the model's own: index of the next free value (entry 3) -/
  free : Nat
  /-- commands that wait, oldest first -/
  pending : List Instr
deriving DecidableEq, Repr, Inhabited
/-! ### Reset -/

/-- A quay right after module reset: IDLE with every unit empty (R69, R103, R151, R183, R185, R253). -/
def Quay.init : Quay :=
  { st := .idle, pc := 0, hcode := 0, drainTo := .stopped, hold := .none, stall := .none, confHeld := 0, pt := 0,
    lag := 0, nextId := 1, sb := [], cranes := [], ve := none, veWait := none, latch := none, gant0 := [], gant1 := [],
    moving0 := [], moving1 := [], sends := [], out0 := [], out1 := [], serial0 := 0, serial1 := 0, recs0 := [],
    recs1 := [], slots := [], wb := [], acc := [], anchors := [], lut := [], armed := none, patched := [],
    gated := false }

/-- A port right after module reset: OFF, learned values lost (R221, R222). -/
def Port.init : Port :=
  { st := .off, attempts := 0, fromSeeds := true, failed := false, txSeq := 0, rxSeq := 4095, acked := 4095, discarding := false,
    txBuf := [], txMarks := [], flits := [], retry := [], owed := [], ackDue := false, nakDue := false, lastVc := 3,
    egress := [], held := [], credits := [], rxPart := [], rxPkts := [], retries := 0, badSeen := [], startEq := [],
    trained := none, lpi := false, upAt := 0, wakeDue := [], turn := 0 }

/-- A DMA channel right after module reset (R439). -/
def Chan.init : Chan :=
  { stack := [], next := 0, busy := false, ran := 0, xfer := none, moving := none, lost := false, calls := [] }

/-- An accumulator element after quay reset (R69). -/
def AccElem.init : AccElem := { a := 0, ovf := false, inx := false, nf := false }

/-- An unassigned route entry (R249). -/
def Route.init : Route := { w0 := 0, w1 := 0, w2 := 0, w3 := 0 }

/-- An EMPTY silo slot (R371). -/
def SiloSlot.init : SiloSlot := { st := .empty, kind := 0, base := 0, len := 0, len1k := 0, crc := 0 }

/-- The pins after module reset: PARK, and WAKE on B7 (R458). -/
def Pin.init (i : Nat) : Pin := { fn := if i = 7 then 5 else 0, next := none, out := false }

/-- Quays 0 to n − 1 as a map of 144 bits. -/
def lowBits (n : Nat) : BitVec 144 := BitVec.ofNat 144 (2 ^ n - 1)

/-- Fuses of a BXM-9136-LC with no owner key (entry 4). -/
def Fuses.init : Fuses :=
  { grade := 136, stepMaj := 1, stepMin := 0, board := 0, serial := 0, ownerHash := [], revoke := 0, svnMin := 0,
    debugFloor := 0 }

/-- Time base and clocks after module reset: TB_NOW counts from 0 (R229), FREE (R238). -/
def Time.init : Time :=
  { phase := 0, slew := 0, frac := 0, qclk := 0, good := 0, void := 0, t1 := none, loadAt := none, holdSince := none,
    shadow := 0, aclk := 0 }

/-- No chart (R216, R452). -/
def Tide.init : Tide :=
  { chart := none, succ := none, sub := none, succSub := none, base := 0, exts := [], var := 0, phase := 0,
    raised := 0, late := none, heldSince := none, decided := false, applied := false, ended := false, changed := [], loaded := false, loadFailed := false }

/-- The stack after power-on: no fields in force (R116), no tags (R387). -/
def Stack.init : Stack :=
  { mem := [], logbook := [], ecc := [], repairs := [], zero := [], scrub := [], repairing := [], cool1 := none,
    cool2 := none, tags := [], container := 0 }

/-- Fabric state after module reset: empty windows (R257), serials 0. -/
def Fabric.init : Fabric :=
  { routes := [], home := 0, eids := [], cto := 20, adaptMesh := false, adaptFabric := false, mesh := [], copies := [], windows := [], gathers := [], pilotOut := [], pilotSerial := 0,
    sws := .off, swsAt := 0 }

/-- Serving state after module reset: no manifest, every berth FREE. -/
def Serve.init : Serve :=
  { manifest := none, former := none, berths := [], finished := [], used := [], cq := [], waits := [], step := 0, voids := [],
    rows := [], mirrors := [], mirLost := 0 }

/-- The silo of a new module: every slot EMPTY, copy A valid, the factory map saved (entry 4); the park bucket is
full at boot (R378): 24 h of 171 GB. -/
def Silo.init : Silo :=
  { mem := [], slots := [], cmd := none, badPages := [], pool := [], bucket := 4104 * 1000000000, bucketAt := 0, passAt := 0,
    fwA := { version := 1, svn := 0, ok := true }, fwB := { version := 1, svn := 0, ok := true }, runB := false,
    savedRepairs := [], savedAge := (0, 0), savedQen := lowBits 136, savedQspare := lowBits 144 ^^^ lowBits 136, savedRbad := 0,
    savedPbad := 0, recQen := lowBits 136, recQspare := lowBits 144 ^^^ lowBits 136, keys := [], trustArm := none, trustCmd := none,
    lost := none }

/-- The breakwater after module reset in A0 (R452), rails at the operating values of R329. -/
def Power.init : Power :=
  { st := .a0, from' := .a0, target := .a0, a1Next := none, latches := [], latched := none, groups := 0, entry := 0,
    rails := [], windows := [], overSince := none, underSince := none, emergAt := none, lowered := 0,
    capStaged := none, learnedFor := 0, maxM := [], stretch := false, calLive := [], calStage := [], calKey := none,
    calCmd := none, calNext := none, replan := false, ageLogged := false, logicTemp := 0, coolSince := none, spent := 0,
    siloSpent := 0, energy := [], unattr := 0 }

/-- The board after power-on, PWR_EN high, PERST# still asserted (R452 step 4). -/
def Board.init : Board :=
  { pins := [], strobe := 0, pwrEn := true, pwrGood := true, perst := true, msixOn := false,
    booted := false, inReset := true, tapDenied := false }

/-- The module right after a module reset of cause POWER_ON (R452, R453): every register at its reset value,
RESET_CAUSE.POWER_ON set (R441), no chart, FAB_CTRL.E2E_MODE = 1, empty logs, and an empty command queue. -/
def State.reset : State :=
  { regs := [(0x14, 1)], c64 := [], latch := [], staged := [], locked := [], quays := [], ports := [], chans := [],
    time := Time.init, tide := Tide.init, stack := Stack.init, fabric := Fabric.init, serve := Serve.init,
    silo := Silo.init, power := Power.init, board := Board.init, fuses := Fuses.init, qen := lowBits 136,
    qspare := lowBits 144 ^^^ lowBits 136, rbad := 0, pbad := 0, distValid := false, chartBuf := [], windows := [],
    eccLog := [], extLog := [], fabLog := [], wakeLog := [], siloLog := [], out := [], free := 0, pending := [] }

end Sys2Proof.Machine
end

