-- ==== Sys2Proof/Config.lean ====
section
/-! DEFINITION. What the spec leaves open: each constant here has no body, so nothing can be proved of its value.
A value of which the spec says only that it is indeterminate, or that a run's timing decides it, is one of these
applied to the counter `State.free` (entry 3) or to the operands it depends on. -/

namespace Sys2Proof.Config

/-- A byte of memory that the spec calls indeterminate (R56, R123, R339). -/
opaque freeByte : Nat → Byte

/-- An accumulator element that the spec calls indeterminate (R56, R123). -/
opaque freeAcc : Nat → Machine.AccElem

/-- A count of clocks that bank traffic, arbitration or a link's timing decides (R71, R73, R97, R103, R330). -/
opaque freeCount : Nat → Nat

/-- A choice that the spec leaves to timing or to the implementation. -/
opaque freeBool : Nat → Bool

/-- The default preset of lane i, coded as EQ_LANEi, of a tap table that the spec names and does not give (R222). -/
opaque defaultPreset : Nat → W32

/-- Whether pilot cores 4 to 7 rather than 0 to 3 send or take a packet with this TAG (R18): the firmware's choice. -/
opaque pilotSide : W32 → Bool

/-- Whether a byte of the data RAM or of the logbook RAM lies in an ECC region's group of columns or in a spare row
(R126): the repair layout is the implementation's, which the spec does not give. -/
opaque inRepair : Bool → Nat → Nat → Bool

/-- What a message of the pilot cores says: its payload is defined by the Yeweric version (R248). -/
opaque yewericMessage : Packet → Machine.YwMessage

/-- Bit errors in the memories and unreadable pages of the silo that one tclk brings (R121, R380). -/
opaque upsets : Nat → Machine.Upsets

/-- Event counts of a tide that ends (R337, R340), which no command carries: they follow traffic and bank timing. -/
opaque tideCounts : Nat → Machine.TideCounts

/-- What the checks of a boot find (R125, R351, R370). -/
opaque bootFinds : Nat → Machine.BootFinds

/-- The module after its reference clock is lost (R455). -/
opaque undefinedState : Nat → Machine.State

/-- Units in the last place between EXP's result and the floor of e^A (R75: within 2 ulp, equal on every run). -/
opaque expUlps : W32 → Fin 4

/-- Units in the last place between LOG's result and the floor of ln A (R75). -/
opaque logUlps : W32 → Fin 4

/-- Whether an ECDSA P-384 signature over the SHA-384 of a message verifies under a key (R392): key, message, signature. -/
opaque ecdsaVerify : List Byte → List Byte → List Byte → Bool

/-- SHA-384 (FIPS 180-4), as the 48 bytes of the digest (R392). -/
opaque sha384 : List Byte → List Byte

/-- The public key that the ROOT_HASH fuse names (R392). -/
opaque rootKey : List Byte

/-- Leakage power of the package, in 0.1 W, at the voltages of the rails in mV and the temperatures of the lowest gain-cell die
and the logic die in 1/16 °C (R332): the leakage model of the calibration set, which R344 does not lay out. -/
opaque staticPower : List Nat → Nat → Nat → Nat

/-- Bytes of a berth record in a parked image (R299, R376): the spec does not lay the record out. -/
opaque berthRecordBytes : Nat

/-- A byte of the calibration set that the factory gave the part, where R344 leaves it to the part. -/
opaque factoryCal : Nat → Byte

/-- Energy of one event of a class, in 2^−149 pJ, by the built-in defaults of R345. -/
opaque builtInEnergy : Nat → Nat

/-- Power scale in 1/1,024 of an operating point of the built-in table of R345. -/
opaque builtInScale : Nat → Nat

end Sys2Proof.Config
end

