-- ==== Sys2Proof/Machine/Bits.lean ====
section
/-! DEFINITION. Bit fields, byte order and sign extension: the helpers every encoding of the spec is read with. -/

namespace Sys2Proof.Machine

/-- Bits [lo + w − 1 : lo] of a number. -/
def fld (x lo w : Nat) : Nat := (x >>> lo) % 2 ^ w

/-- One bit of a number. -/
def bitAt (x i : Nat) : Bool := fld x i 1 == 1

/-- A w-bit two's-complement code as an integer. -/
def sext (x w : Nat) : Int :=
  if x < 2 ^ (w - 1) then (x : Int) else (x : Int) - (2 ^ w : Nat)

/-- An integer modulo 2^w. -/
def wrap (x : Int) (w : Nat) : Nat := (x % (2 ^ w : Nat)).toNat

/-- Bits [lo + w − 1 : lo] of a register word replaced by a value. -/
def putBits (x : W32) (lo w v : Nat) : W32 :=
  let m : W32 := BitVec.ofNat 32 ((2 ^ w - 1) <<< lo)
  (x &&& ~~~m) ||| (BitVec.ofNat 32 (v <<< lo) &&& m)

/-- Bits [lo + w − 1 : lo] of a register word. -/
def getBits (x : W32) (lo w : Nat) : Nat := fld x.toNat lo w

/-- A boolean as one bit. -/
def bit (b : Bool) : Nat := if b then 1 else 0

/-- A little-endian byte string as a number (R134, R239, R429). -/
def leNat : List Byte → Nat
  | [] => 0
  | b :: bs => b.toNat + 256 * leNat bs

/-- The n low bytes of a number, little-endian. -/
def leBytes : Nat → Nat → List Byte
  | 0, _ => []
  | n + 1, x => BitVec.ofNat 8 x :: leBytes n (x / 256)

/-- Bytes [a, a + n) of a byte string, 0 past its end. -/
def slice (bs : List Byte) (a n : Nat) : List Byte :=
  let r := (bs.drop a).take n
  r ++ List.replicate (n - r.length) 0

/-- A little-endian field of n bytes at offset a of a byte string. -/
def leAt (bs : List Byte) (a n : Nat) : Nat := leNat (slice bs a n)

/-- The smallest multiple count: x ÷ y rounded up. -/
def ceilDiv (x y : Nat) : Nat := (x + y - 1) / y

/-- Low word and high word of a 64-bit value. -/
def lo32 (x : W64) : W32 := x.truncate 32
/-- High word of a 64-bit value. -/
def hi32 (x : W64) : W32 := (x >>> 32).truncate 32

/-- A 64-bit value from its words. -/
def join64 (lo hi : W32) : W64 := (hi.zeroExtend 64 <<< 32) ||| lo.zeroExtend 64

/-- A number as a register word. -/
def w32 (n : Nat) : W32 := BitVec.ofNat 32 n
/-- A number as a 64-bit stamp or counter. -/
def w64 (n : Nat) : W64 := BitVec.ofNat 64 n

/-- The least element of a list, if it has one. -/
def listMin : List Nat → Option Nat
  | [] => none
  | x :: xs => match listMin xs with
    | none => some x
    | some y => some (min x y)

/-- One step of the CRC-32C division (reflected polynomial 0x82F6_3B78). -/
def crcBit (c : Nat) : Nat := if c % 2 = 1 then (c / 2) ^^^ 0x82F63B78 else c / 2

/-- One byte of CRC-32C. -/
def crcByte (c : Nat) (b : Byte) : Nat :=
  (List.range 8).foldl (fun c _ => crcBit c) (c ^^^ b.toNat)

/-- CRC-32C (Castagnoli): reflected, initial value and final XOR of all ones. -/
def crc32c (bs : List Byte) : W32 :=
  w32 ((bs.foldl crcByte 0xFFFFFFFF) ^^^ 0xFFFFFFFF)

end Sys2Proof.Machine
end

