-- ==== Sys2Proof/Machine/Tab.lean ====
section
/-! DEFINITION. Tables by key and byte memories in canonical form: the reads and writes of every map of the state.
A table keeps its keys strictly rising; a memory also lists no byte that is 0 (entry 2). -/

namespace Sys2Proof.Machine

/-- The value at a key, if the table lists it. -/
def tabFind {α : Type} : Tab α → Nat → Option α
  | [], _ => none
  | (k', v) :: t, k => if k' = k then some v else tabFind t k

/-- The value at a key, or the default of the keys that are not listed. -/
def tabGet {α : Type} (t : Tab α) (k : Nat) (d : α) : α :=
  (tabFind t k).getD d

/-- The table with a key set. -/
def tabSet {α : Type} : Tab α → Nat → α → Tab α
  | [], k, v => [(k, v)]
  | (k', v') :: t, k, v =>
    if k < k' then (k, v) :: (k', v') :: t
    else if k = k' then (k, v) :: t
    else (k', v') :: tabSet t k v

/-- The table without a key. -/
def tabDel {α : Type} (t : Tab α) (k : Nat) : Tab α :=
  t.filter (fun p => p.1 != k)

/-- The table with a key set, listing it only where it differs from the default. -/
def tabPut {α : Type} [DecidableEq α] (t : Tab α) (k : Nat) (v d : α) : Tab α :=
  if v = d then tabDel t k else tabSet t k v

/-- Every listed key is above the bound, and the keys rise. -/
def risesAbove {α : Type} : Nat → Tab α → Bool
  | _, [] => true
  | b, (k, _) :: t => decide (b < k) && risesAbove k t

/-- The keys of a table rise strictly. -/
def tabWf {α : Type} : Tab α → Bool
  | [] => true
  | (k, _) :: t => risesAbove k t

/-- The canonical form of a memory: keys strictly rising, no byte equal to what an unlisted address reads as. -/
def Mem.wf (m : Mem) : Bool :=
  tabWf m && m.all (fun c => c.2 != 0)

/-- What an unlisted address reads as (entry 2). -/
def Mem.unlisted : Byte := 0

/-- One byte of a memory. -/
def Mem.get (m : Mem) (a : Nat) : Byte :=
  tabGet m a Mem.unlisted

/-- A memory with one byte written, in canonical form. -/
def Mem.set (m : Mem) (a : Nat) (b : Byte) : Mem :=
  tabPut m a b Mem.unlisted

/-- `n` bytes from an address. -/
def Mem.read (m : Mem) (a : Nat) : Nat → List Byte
  | 0 => []
  | n + 1 => m.get a :: Mem.read m (a + 1) n

/-- A memory with a run of bytes written from an address. -/
def Mem.write (m : Mem) (a : Nat) : List Byte → Mem
  | [] => m
  | b :: bs => Mem.write (m.set a b) (a + 1) bs

/-- A memory with the bytes written whose enable is set (`none`: byte enable clear). -/
def Mem.writeSome (m : Mem) (a : Nat) : List (Option Byte) → Mem
  | [] => m
  | none :: bs => Mem.writeSome m (a + 1) bs
  | some b :: bs => Mem.writeSome (m.set a b) (a + 1) bs

/-- A memory with `n` bytes from an address cleared: every byte of the range then reads 0. -/
def Mem.clear (m : Mem) (a n : Nat) : Mem :=
  m.filter (fun c => !(decide (a ≤ c.1) && decide (c.1 < a + n)))

/-- A table without the keys of a range. -/
def tabClear {α : Type} (t : Tab α) (a n : Nat) : Tab α :=
  t.filter (fun c => !(decide (a ≤ c.1) && decide (c.1 < a + n)))

end Sys2Proof.Machine
end

