-- ==== Sys2Proof/Machine/Regs.lean ====
section
/-! DEFINITION. The register space: every register of the block tables with its access masks and reset value (R440,
R441, R446), the key each register has in the state, and the plain reads and writes of one register word. -/

namespace Sys2Proof.Machine

/-- What a register's table says: its RW or RWS, W1C, WO and LK bits, whether its RW bits are staged, its reset value. -/
structure RegSpec where
  rw : Nat
  w1c : Nat
  wo : Nat
  lk : Nat
  rws : Bool
  reset : Nat
deriving DecidableEq, Repr

/-- A run of equal registers of one block: first offset, spacing, count. -/
structure RegRow where
  base : Nat
  stride : Nat
  count : Nat
  spec : RegSpec
deriving DecidableEq, Repr

/-- A table row: first offset, spacing, count, RW bits, W1C bits, WO bits, LK bits, staged, reset value. -/
def regRow (base stride count rw w1c wo lk : Nat) (rws : Bool) (reset : Nat) : RegRow :=
  { base := base, stride := stride, count := count,
    spec := { rw := rw, w1c := w1c, wo := wo, lk := lk, rws := rws, reset := reset } }

/-- Identity and global block: the registers of R446 with the access codes and reset values of their tables. -/
def globRows : List RegRow :=
  [ regRow 0 4 5 0 0 0 0 false 0 -- DEV_ID, DEV_REV, SERIAL_LO/HI, CAPS (R441)
  , regRow 0x14 4 1 0 7 0 0 false 0 -- RESET_CAUSE (R441)
  , regRow 0x18 4 1 0xffffffff 0 0 0 false 0 -- SCRATCH (R441)
  , regRow 0x80 4 1 0xfd 0 0 0 false 0 -- SW_CTRL (R318)
  , regRow 0x84 4 1 0 0xf0 0 0 false 0 -- SW_STATUS (R318)
  , regRow 0x200 4 5 0 0 0 0 false 0 -- DU_QEN0-4 (R355)
  , regRow 0x220 4 5 0 0 0 0 false 0 -- DU_QSPARE0-4 (R355)
  , regRow 0x240 4 5 0 0 0 0 false 0 -- DU_RBAD0-4 (R355)
  , regRow 0x260 4 1 0 0 0 0 false 0 -- DU_PBAD (R355)
  , regRow 0x270 4 1 0 0 0xff03 0 false 0 -- DU_CMD (R355)
  , regRow 0x274 4 1 0 5 0 0 false 0 -- DU_STATUS (R355)
  , regRow 0x300 4 1 0 0 0 1 false 0 -- TRUST_CTRL (R398)
  , regRow 0x304 4 1 0 0xe 0 0 false 0 -- TRUST_STATUS (R398)
  , regRow 0x308 4 1 0 0 0xffc7 0 false 0 -- TRUST_CMD (R398)
  , regRow 0x30c 4 1 0 0 0xffffffff 0 false 0 -- TRUST_ARM (R398)
  , regRow 0x310 4 1 0 0 0 3 false 0 -- DEBUG_LOCK (R398)
  , regRow 0x400 4 1 0x7ff 0 0 0 false 0x50 -- BLOCK_MODE (R438)
  , regRow 0x404 4 1 0 0x3f 0 0 false 0 -- HOST_ERR (R438)
  , regRow 0x408 4 4 0 0 0 0 false 0 -- ERR_ADDR_LO/HI, ERR_TS_LO/HI (R438)
  , regRow 0x418 4 1 0 0x2000 0 0 false 0 -- PCIE_STATUS (R438)
  , regRow 0x500 4 16 0 0xffff 0 0 false 0 -- NOTE_STAT0-15 (R438)
  , regRow 0x540 4 16 0xffff 0 0 0 false 0xffff -- NOTE_MASK0-15 (R438)
  , regRow 0x580 4 16 0 0 0 0 false 0xffff -- PNOTE_MASK0-15: RO for the host, RW for the pilots (R438)
  , regRow 0x800 4 256 0x7ff 0 0 0 false 0 -- NOTE_VEC0-255, reset i (R438)
  , regRow 0x1000 4 576 0 0 0 0 false 0 -- PORT_DIST_q_k (R21)
  ]

/-- One host DMA channel: the registers of R446 with the access codes and reset values of their tables. -/
def dmaRows : List RegRow :=
  [ regRow 0 4 1 1 0 0xe 0 false 0 -- DMA_CTRL (R439)
  , regRow 4 4 1 0 0x300 0 0 false 0 -- DMA_STATUS (R439)
  , regRow 8 4 1 0xffffffff 0 0 0 false 0 -- RING (R439)
  , regRow 0xc 4 1 0xffffffff 0 0 0 false 0 -- RING (R439)
  , regRow 0x10 4 1 0xf 0 0 0 false 4 -- RING_SIZE (R439)
  , regRow 0x14 4 1 0xffff 0 0 0 false 0 -- TAIL (R439)
  , regRow 0x18 4 1 0 0 0 0 false 0 -- HEAD (R439)
  , regRow 0x1c 4 1 0xffffffff 0 0 0 false 0 -- WB (R439)
  , regRow 0x20 4 1 0xffffffff 0 0 0 false 0 -- WB (R439)
  , regRow 0x24 4 1 0 0 0 0 false 0 -- ERR_DESC (R439)
  , regRow 0x28 4 1 0 0 0 0 false 0 -- ERR_DESC (R439)
  , regRow 0x2c 4 1 0 0 0 0 false 0 -- DONE_CNT (R439)
  ]

/-- Chart and tide block: the registers of R446 with the access codes and reset values of their tables. -/
def chartRows : List RegRow :=
  [ regRow 0 4 1 0x100 0 7 0 false 0 -- CHART_CTRL (R216)
  , regRow 4 4 1 0 0x7000 0 0 false 0 -- CHART_STATUS
  , regRow 8 4 4 0xffffffff 0 0 0 false 0 -- CHART_START, SWITCH_AT
  , regRow 0x18 4 4 0 0 0 0 false 0 -- CHART_ID, STBY_ID
  , regRow 0x30 4 4 0 0 0 0 false 0 -- TIDE_IDX, NEXT_BND
  , regRow 0x40 4 3 0 0 0 0 false 0 -- TIDE_CFG, TIDE_PHASE, TIDE_VAR
  , regRow 0x50 4 6 0 0 0 0 false 0 -- VAR_TIDES, EXT_TIDES, HOLD_TIDES
  , regRow 0x80 4 4 0 0 0 0 false 0 -- EXT_LOG0-3
  , regRow 0x90 4 1 0 0 0xffffffff 0 false 0 -- EXT_LOG_POP
  ]

/-- Breakwater and power block: the registers of R446 with the access codes and reset values of their tables. -/
def bwRows : List RegRow :=
  [ regRow 0 4 1 0x7ff 0 0x10000 0 false 0x5dc -- BW_CTRL (R348)
  , regRow 4 4 1 0 0x1f8 0 0 false 0 -- BW_STATUS
  , regRow 8 4 2 0 0 0 0 false 0 -- P_EST, P_AVG
  , regRow 0x10 4 1 0 0 0 0 false 0x6403200 -- VF_CUR: point 0 at boot, 1,600 MHz at 800 mV (entry 4)
  , regRow 0x18 4 1 0xfffff 0 0 0 false 0 -- A1_GATE
  , regRow 0x20 4 1 0 0 1 0 false 0 -- AGE_CTRL
  , regRow 0x24 4 1 0 2 0 0 false 0 -- AGE_STATUS
  , regRow 0x28 4 1 0 0 0 0 false 0 -- AGE_OFS
  , regRow 0x30 4 1 0 0 3 0 false 0 -- CAL_CMD
  , regRow 0x34 4 1 0 6 0 0 false 0 -- CAL_STATUS
  , regRow 0x38 4 1 0 0 0xffffffff 0 false 0 -- CAL_KEY
  , regRow 0x100 4 2 0 0 0 0 false 0 -- TEL_IN0, TEL_IN1
  , regRow 0x110 4 10 0 0 0 0 false 0 -- TEL_Vn, TEL_Tn
  , regRow 0x400 4 64 0 0 0 0 false 0 -- LEARN_0-63
  ]

/-- One Fider port block: the registers of R446 with the access codes and reset values of their tables. -/
def portRows : List RegRow :=
  [ regRow 0 4 1 0x33 0 0xc 0 false 0 -- PORT_CTRL (R237)
  , regRow 4 4 1 0 0 0 0 false 0 -- PORT_STATUS
  , regRow 8 4 1 0 0x1f 0 0 false 0 -- PORT_EVT
  , regRow 0x10 4 10 0 0 0 0 false 0 -- FEC_CORR, FEC_UNCORR, RETRY_RX, RETRY_TX, DOWN_CNT
  , regRow 0x40 4 1 2 0 1 0 false 0 -- PORT_CNT_CTRL
  , regRow 0x50 4 1 0xffff 0 0 0 false 0 -- TB_ASYM
  , regRow 0x100 4 8 0 0 0 0 false 0 -- EQ_LANE0-7
  ]

/-- Route-register block: the registers of R446 with the access codes and reset values of their tables. -/
def routeRegRows : List RegRow :=
  [ regRow 0 4 1 1 0 0 0 false 1 -- FAB_CTRL (R264)
  , regRow 4 4 1 0 0x3f 0 0 false 0 -- FAB_STATUS
  , regRow 0x20 4 4 0xffff 0 0 0 false 0 -- QUENCH_0-3
  , regRow 0x30 4 16 0 0 0 0 false 0 -- DROP_HDR .. STRANDED
  , regRow 0x70 4 1 2 0 1 0 false 0 -- FAB_CNT_CTRL
  , regRow 0x80 4 4 0 0 0 0 false 0 -- FLOG0-3
  , regRow 0x90 4 1 0 0 0xffffffff 0 false 0 -- FLOG_POP
  ]

/-- One quay block: the registers of R446 with the access codes and reset values of their tables. -/
def quayRows : List RegRow :=
  [ regRow 0 4 1 0 0 0 0 false 0 -- QSTATE (R185)
  , regRow 4 4 1 0 0 0xf 0 false 0 -- QCMD
  , regRow 8 4 1 0x1fff 0 0 0 false 0 -- LOG_LEN
  , regRow 0xc 4 1 0xfff 0 0 0 false 0 -- LOG_START
  , regRow 0x10 4 1 0 7 0 0 false 0 -- QEVT
  , regRow 0x20 4 1 0 3 0 0 false 0 -- FAULT_STAT
  , regRow 0x24 4 3 0 0 0 0 false 0 -- FAULT_INFO, FAULT_TS
  , regRow 0x30 4 1 3 0 0 0 false 0 -- PATCH_CTRL
  , regRow 0x34 4 1 0xffff 0 0 0 false 0 -- PATCH_AT
  , regRow 0x38 4 2 0 0 0 0 false 0 -- PATCH_SEQ, PATCH_TIDE
  , regRow 0x40 4 1 0 0 0 0 false 0 -- QTENANT (R398)
  , regRow 0x100 4 12 0 0 0 0 false 0 -- ISSUED, ST_WAIT, ST_BR, ST_CONF, ST_FULL, ST_UNIT
  , regRow 0x130 4 1 2 0 1 0 false 0 -- ISS_CNT_CTRL
  , regRow 0x138 4 1 0 0 0 0 false 0 -- SB_STATUS
  , regRow 0x13c 4 1 0xffff 0 0 0 false 0x1000 -- SB_LIMIT
  , regRow 0x180 4 1 0 0xffff 0 0 false 0 -- ACC_STATUS (R48)
  , regRow 0x184 4 1 3 0 0 0 false 0 -- ACC_CTRL (R49)
  , regRow 0x1a0 4 12 0 0 0 0 false 0 -- FRZ_ANY, FRZ_WB, FRZ_ACT, FRZ_ACCP, FRZ_DRAIN, CRANE_ACT (R73)
  , regRow 0x1d0 4 1 2 0 1 0 false 0 -- CRANE_CNT_CTRL (R73)
  , regRow 0x200 4 1 0 0x3f 0 0 false 0 -- VE_STATUS (R103)
  , regRow 0x204 4 5 0 0 0 0 false 0 -- LUT_TAG, VE_ACT, VE_STALL (R103)
  , regRow 0x218 4 1 2 0 1 0 false 0 -- VE_CNT_CTRL (R103)
  , regRow 0x400 4 64 0xffffffff 0 0 0 true 0 -- PARAM0-63 (R160)
  , regRow 0x500 4 16 0xffffffff 0 0 0 false 0 -- CNT0-15 (R160)
  , regRow 0x540 4 16 0xffff 0 0 0 false 0 -- FAIL0-15 (R160)
  , regRow 0x580 4 1 0 0 0 0 false 0 -- CMPSTAT (R160)
  , regRow 0x600 4 1 0 0x300 0xc00 0 false 0 -- SEND_REC (R265)
  , regRow 0xc00 4 64 0xffff 0 0 0 true 0 -- PARAM0-63_H (R160)
  , regRow 0xd00 4 16 0xffff 0 0 0 false 0 -- CNT0-15_H (R160)
  ]

/-- Memory-stack block: the registers of R446 with the access codes and reset values of their tables. -/
def stackRows : List RegRow :=
  [ regRow 0 4 1 0 0 0 0 false 0 -- MEM_THERM (R133)
  , regRow 4 4 1 0 0xf 0 0 false 0 -- MEM_STATUS
  , regRow 0x10 4 12 0 0 0 0 false 0 -- CE_HOLD, CE_CTX, CE_APRON, UE_ANY, REF_STEAL, LOG_LOST
  , regRow 0x100 4 4 0 0 0 0 false 0 -- ECC_LOG0-3
  , regRow 0x110 4 1 0 0 0xffffffff 0 false 0 -- ECC_LOG_POP
  , regRow 0x200 4 1 0x7ff87fff 0 0x80000000 0 false 0 -- REPAIR_CMD
  ]

/-- Silo block: the registers of R446 with the access codes and reset values of their tables. -/
def siloRows : List RegRow :=
  [ regRow 0 4 1 0 0x2c 0 0 false 0 -- SILO_STATUS (R382)
  , regRow 4 4 1 0 0 7 0 false 0 -- SILO_CMD
  , regRow 8 4 1 0xfff 0 0 0 false 0 -- SILO_ARG0
  , regRow 0xc 4 1 0xffffffff 0 0 0 false 0 -- SILO_ARG1
  , regRow 0x10 4 1 0xffffffff 0 0 0 false 0 -- SILO_ARG2
  , regRow 0x18 4 1 0xff 0 0 0 false 0 -- SLOT_SEL
  , regRow 0x1c 4 3 0 0 0 0 false 0 -- SLOT_INFO0-2
  , regRow 0x30 4 6 0 0 0 0 false 0 -- HOST_WR, INT_WR, NAND_WR
  , regRow 0x48 4 1 0 0 0 0 false 0 -- WEAR
  , regRow 0x4c 4 1 0xffff 0 0 0 false 0xab -- BUDGET
  , regRow 0x50 4 1 0xff 0 0 0 false 0x640007 -- SCRUB: SPARE 100 % on a new module (entry 4), DAYS 7
  , regRow 0x60 4 4 0 0 0 0 false 0 -- SLOG0-3
  , regRow 0x70 4 1 0 0 0xffffffff 0 false 0 -- SLOG_POP
  ]

/-- Pilot mailbox block: the registers of R446 with the access codes and reset values of their tables. -/
def mboxRows : List RegRow :=
  [ regRow 0 4 1 1 0 2 0 false 0 -- MB_CTRL (R286)
  , regRow 4 4 1 0 0x14 0 0 false 0 -- MB_STATUS
  , regRow 8 4 1 0 0 0 0 false 0 -- MB_FW_VER
  , regRow 0x10 4 1 0xffff 0 0 0 false 0 -- SQ0_TAIL
  , regRow 0x14 4 1 0 0 0 0 false 0 -- SQ0_HEAD
  , regRow 0x18 4 1 0xffff 0 0 0 false 0 -- SQ1_TAIL
  , regRow 0x1c 4 1 0 0 0 0 false 0 -- SQ1_HEAD
  , regRow 0x20 4 1 0xffff 0 0 0 false 0 -- CQ_HEAD
  , regRow 0x24 4 1 0 0 0 0 false 0 -- CQ_TAIL
  , regRow 0x28 4 2 0xffffffff 0 0 0 false 0 -- CQ_HOST_LO/HI
  , regRow 0x30 4 1 0 0 0 0 false 0 -- BERTH_CNT
  , regRow 0x34 4 1 0 0 0 0 false 0 -- ROW_LATE
  , regRow 0x38 4 2 0 0 0 0 false 0 -- UNATTR_LO/HI
  , regRow 0x40 4 1 0xffff000f 0 0 0 false 0 -- MIR_CTRL (R366)
  , regRow 0x44 4 1 0 0xc0000000 0 0 false 0 -- MIR_STATUS
  , regRow 0x48 4 1 0 0 0xffff 0 false 0 -- MIR_DROP
  , regRow 0x4c 4 1 0xffffffff 0 0 0 false 0 -- ADOPT
  , regRow 0x60 4 2 0xffffffff 0 0 0 false 0 -- LB_MAP_LO/HI
  , regRow 0x68 4 1 0 0 3 0 false 0 -- LB_CTRL
  , regRow 0x6c 4 1 0 0 0 0 false 0 -- LB_STATUS
  ]

/-- Time base and trace block: the registers of R446 with the access codes and reset values of their tables. -/
def tbRows : List RegRow :=
  [ regRow 0 4 2 0 0 0 0 false 0 -- TB_NOW (R238)
  , regRow 8 4 1 0x3fff7 0 8 0 false 0 -- TB_CTRL
  , regRow 0xc 4 1 0 0xf0 0 0 false 0 -- TB_STATUS
  , regRow 0x10 4 2 0xffffffff 0 0 0 false 0 -- TB_LOAD
  , regRow 0x18 4 2 0 0 0 0 false 0 -- TB_OFFSET, TB_DELAY
  , regRow 0x40 4 1 0 0 3 0 false 0 -- SWS_CTRL (R319)
  , regRow 0x44 4 1 0 0x38 0 0 false 0 -- SWS_STATUS
  , regRow 0x48 4 2 0xffffffff 0 0 0 false 0 -- SWS_AT
  , regRow 0x80 4 1 0xff03 0 0 0 false 0 -- TRACE_CTRL (R445)
  , regRow 0x84 4 1 0 6 0 0 false 0 -- TRACE_STATUS
  , regRow 0x88 4 2 0xffffffff 0 0 0 false 0 -- TRACE_BASE
  , regRow 0x90 4 1 0xf 0 0 0 false 6 -- TRACE_SIZE
  , regRow 0x94 4 1 0 0 0 0 false 0 -- TRACE_HEAD
  , regRow 0x98 4 1 0xffff 0 0 0 false 0 -- TRACE_TAIL
  , regRow 0x9c 4 1 0 0 0 0 false 0 -- TRACE_DROPPED
  ]

/-- Always-on block: the registers of R446 with the access codes and reset values of their tables. -/
def aonRows : List RegRow :=
  [ regRow 0 4 1 0 0 7 0 false 0 -- PWR_CMD (R349)
  , regRow 4 4 1 0 0x10 0 0 false 0 -- PWR_STATE
  , regRow 8 4 1 0xf3f 0 0 0 false 0x300 -- WAKE_CFG
  , regRow 0xc 4 1 0 0 0 0 false 0 -- LAST_WAKE
  , regRow 0x10 4 2 0 0 0 0 false 0 -- LAST_WAKE_TS
  , regRow 0x18 4 2 0xffffffff 0 0 0 false 0 -- WAKE_TIMER
  , regRow 0x20 4 4 0 0 0 0 false 0 -- WLOG0-3
  , regRow 0x30 4 1 0 0 0xffffffff 0 false 0 -- WLOG_POP
  ]

/-- Blocks of the register space (R440). -/
inductive Block where
  | glob
  | msix
  | pba
  | dma (c : Nat)
  | chart
  | bw
  | port (p : Nat)
  | route
  | routeReg
  | quay (n : Nat)
  | stack
  | tags (n : Nat)
  | silo
  | mbox
  | mboxWindow
  | tb
  | aon
deriving DecidableEq, Repr

/-- The block of a BAR0 address and the offset in it (R440, R443). Block 0x0100_0000 decodes to the memory stack, not
to quay 128 (entry 6). -/
def blockAt (a : Nat) : Option (Block × Nat) :=
  if a < 0x10000 then some (.glob, a)
  else if a < 0x80000 then none
  else if a < 0x90000 then some (.msix, a - 0x80000)
  else if a < 0xA0000 then some (.pba, a - 0x90000)
  else if a < 0xB0000 then some (.dma (fld a 8 4), a - 0xA0000)
  else if a < 0x100000 then none
  else if a < 0x110000 then some (.chart, a - 0x100000)
  else if a < 0x200000 then none
  else if a < 0x210000 then some (.bw, a - 0x200000)
  else if a < 0x300000 then none
  else if a < 0x400000 then some (.port (fld a 16 4), a % 0x10000)
  else if a < 0x500000 then some (.route, a - 0x400000)
  else if a < 0x510000 then some (.routeReg, a - 0x500000)
  else if a < 0x800000 then none
  else if a < 0x1000000 then some (.quay ((a - 0x800000) / 0x10000), a % 0x10000)
  else if a < 0x1010000 then some (.stack, a - 0x1000000)
  else if a < 0x1100000 then some (.quay ((a - 0x800000) / 0x10000), a % 0x10000)
  else if a < 0x1400000 then none
  else if a < 0x1410000 then some (.silo, a - 0x1400000)
  else if a < 0x1800000 then none
  else if a < 0x1810000 then some (.mbox, a - 0x1800000)
  else if a < 0x1860000 then some (.mboxWindow, a - 0x1800000)
  else if a < 0x1C00000 then none
  else if a < 0x1C10000 then some (.tb, a - 0x1C00000)
  else if a < 0x1E00000 then none
  else if a < 0x1E10000 then some (.aon, a - 0x1E00000)
  else if a < 0x2000000 then none
  else if a < 0x3200000 then some (.tags ((a - 0x2000000) / 0x20000), a % 0x20000)
  else none

/-- The key of a register of quay n. -/
def qkey (n ofs : Nat) : Nat := 0x80000000 + n * 0x10000 + ofs

/-- The key of a register of port p. -/
def pkey (p ofs : Nat) : Nat := 0x300000 + p * 0x10000 + ofs

/-- The key of a register of DMA channel c. -/
def dkey (c ofs : Nat) : Nat := 0xA0000 + c * 0x100 + ofs

/-- The key of a register in the state. -/
def keyOf (b : Block) (ofs : Nat) : Nat :=
  match b with
  | .glob => ofs
  | .msix => 0x80000 + ofs
  | .pba => 0x90000 + ofs
  | .dma c => dkey c (ofs % 0x100)
  | .chart => 0x100000 + ofs
  | .bw => 0x200000 + ofs
  | .port p => pkey p ofs
  | .route => 0x400000 + ofs
  | .routeReg => 0x500000 + ofs
  | .quay n => qkey n ofs
  | .stack => 0x1000000 + ofs
  | .tags n => 0x2000000 + n * 0x20000 + ofs
  | .silo => 0x1400000 + ofs
  | .mbox => 0x1800000 + ofs
  | .mboxWindow => 0x1800000 + ofs
  | .tb => 0x1C00000 + ofs
  | .aon => 0x1E00000 + ofs

/-- The row of a block's table that an offset falls on. -/
def rowFind : List RegRow → Nat → Option RegSpec
  | [], _ => none
  | r :: rs, o =>
    if r.base ≤ o && (o - r.base) % r.stride = 0 && (o - r.base) / r.stride < r.count then some r.spec
    else rowFind rs o

/-- A route word: read-write in [15:0], of word 3 in bit 0 alone (R249). -/
def routeWordSpec (o : Nat) : RegSpec := { rw := if o % 16 = 12 then 1 else 0xffff, w1c := 0, wo := 0, lk := 0, rws := false, reset := 0 }

/-- A register of a block: its table's entry, or none where the offset names no register. Route words are RW by
R249; tag words are RO for the host (R387); MSI-X words follow PCIe, masked at reset (entry 7). -/
def specAt (b : Block) (o : Nat) : Option RegSpec :=
  match b with
  | .glob => (rowFind globRows o).map (fun r => if 0x800 ≤ o && o < 0xC00 then { r with reset := (o - 0x800) / 4 } else r)
  | .msix =>
    if o < 0x8000 && o % 4 = 0 then
      some (if o % 16 = 12 then { rw := 1, w1c := 0, wo := 0, lk := 0, rws := false, reset := 1 }
        else { rw := 0xffffffff, w1c := 0, wo := 0, lk := 0, rws := false, reset := 0 })
    else none
  | .pba => if o < 0x100 && o % 4 = 0 then some { rw := 0, w1c := 0, wo := 0, lk := 0, rws := false, reset := 0 } else none
  | .dma _ => if o < 0x1000 then rowFind dmaRows (o % 0x100) else none
  | .chart => rowFind chartRows o
  | .bw => rowFind bwRows o
  | .port _ => rowFind portRows o
  | .route => if o % 4 = 0 then some (routeWordSpec o) else none
  | .routeReg => rowFind routeRegRows o
  | .quay _ => rowFind quayRows o
  | .stack => rowFind stackRows o
  | .tags _ => if o % 4 = 0 then some { rw := 0, w1c := 0, wo := 0, lk := 0, rws := false, reset := 0 } else none
  | .silo => rowFind siloRows o
  | .mbox => rowFind mboxRows o
  | .mboxWindow => none
  | .tb => rowFind tbRows o
  | .aon => rowFind aonRows o

/-- The block and offset that a key names. -/
def blockOfKey (k : Nat) : Option (Block × Nat) :=
  if 0x80000000 ≤ k then some (.quay ((k - 0x80000000) / 0x10000), k % 0x10000) else blockAt k

/-- The table entry of a key. -/
def specOfKey (k : Nat) : Option RegSpec :=
  (blockOfKey k).bind (fun p => specAt p.1 p.2)

/-- The value of a register after reset, as its table gives it (entry 4 for those it gives `from the record`). -/
def resetOf (k : Nat) : W32 :=
  match specOfKey k with
  | some r => w32 r.reset
  | none => 0

/-- The stored value of a register. -/
def State.reg (s : State) (k : Nat) : W32 := tabGet s.regs k (resetOf k)

/-- The state with a register stored. -/
def State.setReg (s : State) (k : Nat) (v : W32) : State :=
  { s with regs := tabPut s.regs k v (resetOf k) }

/-- A field of a register. -/
def State.fieldAt (s : State) (k lo w : Nat) : Nat := getBits (s.reg k) lo w

/-- The state with one field of a register stored. -/
def State.setField (s : State) (k lo w v : Nat) : State :=
  s.setReg k (putBits (s.reg k) lo w v)

/-- The state with status bits of a register set. -/
def State.orReg (s : State) (k m : Nat) : State :=
  s.setReg k (s.reg k ||| w32 m)

/-- A 64-bit counter, stamp or RO pair, by the key of its _LO register. -/
def State.cnt64 (s : State) (k : Nat) : W64 := tabGet s.c64 k 0

/-- The state with a 64-bit pair stored. -/
def State.setCnt64 (s : State) (k : Nat) (v : W64) : State :=
  { s with c64 := tabPut s.c64 k v 0 }

/-- A 64-bit counter advanced, unless the HOLD bit [1] of its control register stops it (R73, R103, R185, R237, R264). -/
def State.count (s : State) (ctrl k n : Nat) : State :=
  if s.fieldAt ctrl 1 1 = 1 then s else s.setCnt64 k (s.cnt64 k + w64 n)

/-- A 64-bit counter that nothing holds, advanced. -/
def State.bump (s : State) (k n : Nat) : State :=
  s.setCnt64 k (s.cnt64 k + w64 n)

/-- Counters of a run of _LO keys cleared. -/
def State.clear64 (s : State) (k n : Nat) : State :=
  { s with c64 := tabClear s.c64 k n }

/-- Registers of a run of keys at their reset values. -/
def State.resetRegs (s : State) (k n : Nat) : State :=
  { s with regs := tabClear s.regs k n, c64 := tabClear s.c64 k n }

/-- The _LO keys of 64-bit pairs whose _HI word is read-only: they hold a latch per requester class (R442). -/
def latchedLo (k : Nat) : Bool :=
  match blockOfKey k with
  | some (.glob, o) => o = 0x8 || o = 0x408 || o = 0x410
  | some (.dma _, o) => o % 0x100 = 0x24
  | some (.chart, o) => o = 0x18 || o = 0x20 || o = 0x30 || o = 0x38 || o = 0x50 || o = 0x58 || o = 0x60 || o = 0x80
  | some (.port _, o) => 0x10 ≤ o && o < 0x38 && o % 8 = 0
  | some (.routeReg, o) => (0x30 ≤ o && o < 0x70 && o % 8 = 0) || o = 0x80
  | some (.quay _, o) =>
    o = 0x28 || (0x100 ≤ o && o < 0x130 && o % 8 = 0) || (0x1A0 ≤ o && o < 0x1D0 && o % 8 = 0) || o = 0x208 || o = 0x210
  | some (.stack, o) => (0x10 ≤ o && o < 0x40 && o % 8 = 0) || o = 0x100
  | some (.silo, o) => o = 0x30 || o = 0x38 || o = 0x40 || o = 0x60
  | some (.mbox, o) => o = 0x38
  | some (.tb, o) => o = 0
  | some (.aon, o) => o = 0x10 || o = 0x20
  | _ => false

/-- The _LO keys of 64-bit pairs whose _HI word is writable: they hold no latch (R442). -/
def plainLo (k : Nat) : Bool :=
  match blockOfKey k with
  | some (.dma _, o) => o % 0x100 = 0x8 || o % 0x100 = 0x1C
  | some (.chart, o) => o = 0x8 || o = 0x10
  | some (.mbox, o) => o = 0x28 || o = 0x60
  | some (.tb, o) => o = 0x10 || o = 0x48 || o = 0x88
  | some (.aon, o) => o = 0x18
  | _ => false

/-- A pair of writable registers as one 64-bit value. -/
def State.pair (s : State) (k : Nat) : W64 := join64 (s.reg k) (s.reg (k + 4))

/-- The requester class as a number, for the latch keys (R442). -/
def reqIndex : Req → Nat
  | .host => 0
  | .pilot => 1
  | .smbus => 2

/-- The latch key of a pair for a class. -/
def latchKey (rq : Req) (k : Nat) : Nat := reqIndex rq * 2 ^ 34 + k

end Sys2Proof.Machine
end

