-- ==== Sys2Proof/Machine/Ops.lean ====
section
/-! DEFINITION. The named operations every command is written from: time, output, notification and MSI-X, trace, error
capture, the stack memory with its error correction, tenants, and the records a quay holds. -/

namespace Sys2Proof.Machine

/-! ### Parts of the state -/

/-- The record of quay n. -/
def State.quay (s : State) (q : Nat) : Quay := tabGet s.quays q Quay.init
/-- The state with the record of quay n replaced. -/
def State.setQuay (s : State) (q : Nat) (x : Quay) : State := { s with quays := tabPut s.quays q x Quay.init }
/-- The record of port p. -/
def State.port (s : State) (p : Nat) : Port := tabGet s.ports p Port.init
/-- The state with the record of port p replaced. -/
def State.setPort (s : State) (p : Nat) (x : Port) : State := { s with ports := tabPut s.ports p x Port.init }
/-- The record of DMA channel c. -/
def State.chan (s : State) (c : Nat) : Chan := tabGet s.chans c Chan.init
/-- The state with the record of DMA channel c replaced. -/
def State.setChan (s : State) (c : Nat) (x : Chan) : State := { s with chans := tabPut s.chans c x Chan.init }

/-- A register of quay q. -/
def State.qreg (s : State) (q ofs : Nat) : W32 := s.reg (qkey q ofs)
/-- A register of quay q stored. -/
def State.setQreg (s : State) (q ofs : Nat) (v : W32) : State := s.setReg (qkey q ofs) v

/-- Quay q is enabled by the disabled-unit map (R350). -/
def State.enabled (s : State) (q : Nat) : Bool := decide (q < 144) && s.qen.getLsbD q

/-- TB_NOW (R229). -/
def kTbNow : Nat := 0x1C00000

/-- The time-base stamp of this moment. -/
def State.now (s : State) : W64 := s.cnt64 kTbNow

/-- Something leaves the module. -/
def State.emit (s : State) (o : Out) : State := { s with out := s.out ++ [o] }

/-- The next free value has been taken (entry 3). -/
def State.useFree (s : State) : State := { s with free := s.free + 1 }

/-! ### Notification (R425 to R427) -/

/-- MSI-X vector v is raised: a message, or its pending bit while the vector is masked (R426). -/
def State.raiseVector (s : State) (v : Nat) : State :=
  if !s.board.msixOn then s
  else if s.fieldAt (0x80000 + 16 * v + 12) 0 1 = 1 then
    s.orReg (0x90000 + 4 * (v / 32)) (2 ^ (v % 32))
  else
    s.emit (.msix v (s.pair (0x80000 + 16 * v)) (s.reg (0x80000 + 16 * v + 8)))

/-- NOTE_STATw, NOTE_MASKw and NOTE_VECi. -/
def kNoteStat (w : Nat) : Nat := 0x500 + 4 * w
/-- NOTE_MASKw (R438). -/
def kNoteMask (w : Nat) : Nat := 0x540 + 4 * w
/-- NOTE_VECi (R438). -/
def kNoteVec (i : Nat) : Nat := 0x800 + 4 * i

/-- Status bit i, and status AND NOT mask (R426). -/
def State.noteShows (s : State) (i : Nat) : Bool :=
  s.fieldAt (kNoteStat (i / 16)) (i % 16) 1 = 1 && s.fieldAt (kNoteMask (i / 16)) (i % 16) 1 = 0

/-- Vectors of the sources of a word that came to show since `before` (R426). -/
def raiseNew (before : State) (w : Nat) (s : State) : State :=
  (List.range 16).foldl (fun s b =>
    if !before.noteShows (16 * w + b) && s.noteShows (16 * w + b) then
      s.raiseVector (s.fieldAt (kNoteVec (16 * w + b)) 0 11)
    else s) s

/-- Notification source i occurs (R425, R426). -/
def State.note (s : State) (i : Nat) : State :=
  let s' := s.setField (kNoteStat (i / 16)) (i % 16) 1 1
  if !s.noteShows i && s'.noteShows i then s'.raiseVector (s'.fieldAt (kNoteVec i) 0 11) else s'

/-! ### Trace (R445) -/

/-- DEBUG_LOCK.LEVEL (R397): DEBUG_FLOOR until a level is stored. -/
def State.debugLevel (s : State) : Nat :=
  if s.locked.contains 0x310 then s.fieldAt 0x310 0 2 else s.fuses.debugFloor

/-- TRACE_CTRL, TRACE_STATUS, TRACE_BASE_LO, TRACE_SIZE, TRACE_HEAD, TRACE_TAIL, TRACE_DROPPED. -/
def kTrace (i : Nat) : Nat := 0x1C00080 + 4 * i

/-- The trace ring is full: HEAD − TAIL equals its size and WRAP is 0 (R445). -/
def State.traceFull (s : State) : Bool :=
  s.fieldAt (kTrace 0) 1 1 = 0 &&
  (s.fieldAt (kTrace 5) 0 16 + 65536 - s.fieldAt (kTrace 6) 0 16) % 65536 = 2 ^ s.fieldAt (kTrace 4) 0 4

/-- A trace record of an event is made, where its source is traced (R445). Its write into host memory succeeds
(entry 8). -/
def State.trace (s : State) (src code unit : Nat) (payload : List W32) : State :=
  if s.fieldAt (kTrace 0) 0 1 = 0 || s.fieldAt (kTrace 0) (8 + src) 1 = 0 then s
  else if s.traceFull then
    (s.setReg (kTrace 7) (s.reg (kTrace 7) + 1)).orReg (kTrace 1) 2
  else
    let h := s.fieldAt (kTrace 5) 0 16
    let pay := if s.debugLevel = 2 then List.replicate 16 (0 : Byte)
      else slice ((payload.map (fun w => leBytes 4 w.toNat)).flatten) 0 16
    let rec' := leBytes 8 s.now.toNat ++ leBytes 1 src ++ leBytes 1 code ++ leBytes 2 unit ++ leBytes 4 0 ++ pay
    let s := s.emit (.hostWrite (s.pair (kTrace 2) + w64 (32 * (h % 2 ^ s.fieldAt (kTrace 4) 0 4))) rec')
    s.setField (kTrace 5) 0 16 ((h + 1) % 65536)

/-- A log entry as the four words of a trace payload. -/
def logWords (e : LogEntry) : List W32 := [lo32 e.ts, hi32 e.ts, e.w2, e.w3]

/-! ### Error capture (R424) -/

/-- HOST_ERR flag bits (R438). -/
def errFlag (code : Nat) : Nat :=
  if code = 0xC8 then 2 else if code = 0xC9 then 3 else if code = 0xCA then 4 else 1

/-- A host-and-register error: its flag, and its capture or OVF (R424), and source 171. `bar` is 0 or 1. -/
def State.hostErr (s : State) (rq : Req) (code bar addr : Nat) : State :=
  let first := s.fieldAt 0x404 0 1 = 0
  let s := s.setField 0x404 (errFlag code) 1 1
  let s :=
    if first then
      let s := (s.setField 0x404 24 8 code).setField 0x404 0 1 1
      let hi := fld addr 32 4 + 256 * bar + 512 * (if rq = .host then 0 else 1)
      ((s.setReg 0x408 (w32 addr)).setReg 0x40C (w32 hi)).setCnt64 0x410 s.now
    else s.setField 0x404 5 1 1
  s.note 171

/-- A reserved encoding was written (R9, R424). -/
def State.regRsvd (s : State) (rq : Req) (addr : Nat) : State := s.hostErr rq 0xC9 0 addr

/-! ### Addresses of the stack (R104, R105) -/

/-- Bytes of a space: apron, hold, context store. -/
def spaceSize (sp : Nat) : Nat :=
  if sp = 0 then 0x60000 else if sp = 1 then 0x3000000 else if sp = 2 then 0xC000000 else 0

/-- A 38-bit stack address. -/
def stackAddr (q sp ofs : Nat) : Nat := q * 2 ^ 30 + sp * 2 ^ 28 + ofs
/-- QUAY, SPACE and OFFSET of a stack address. -/
def saQuay (a : Nat) : Nat := fld a 30 8
/-- SPACE of a stack address. -/
def saSpace (a : Nat) : Nat := fld a 28 2
/-- OFFSET of a stack address. -/
def saOffset (a : Nat) : Nat := fld a 0 28

/-- The checks of R105 on a transfer of n bytes at a stack address: the code raised, or none. -/
def State.checkStack (s : State) (a n : Nat) : Option Nat :=
  if saSpace a = 3 then some 0x12
  else if !s.enabled (saQuay a) then some 0x73
  else if spaceSize (saSpace a) < saOffset a + n then some 0x74
  else none

/-- FAULT_INFO of a memory code: SPACE in [31:28], offset in [27:0] (R184). -/
def memInfo (a : Nat) : Nat := saSpace a * 2 ^ 28 + saOffset a

/-! ### Error correction (R109, R121 to R123) -/

/-- Bytes of a codeword: 8 under SECDED, 32 under the BCH code of the context store (R121). -/
def cwBytes (a : Nat) : Nat := if a < 2 ^ 40 && saSpace a = 2 then 32 else 8

/-- Marked codewords that overlap n bytes at an address, in address order. -/
def marksIn (t : Tab EccMark) (a n : Nat) : List (Nat × EccMark) :=
  t.filter (fun m => decide (m.1 < a + n) && decide (a < m.1 + cwBytes m.1))

/-- DIE of an ECC log entry: stack position minus 2, or 7 for the apron (R111, R114, R133). -/
def eccDie (a : Nat) : Nat :=
  if saSpace a = 1 then (saOffset a / 64) % 2
  else if saSpace a = 2 then 2 + (saOffset a / 64) % 4
  else 7

/-- CE_HOLD, CE_CTX, CE_APRON, UE_ANY, REF_STEAL, LOG_LOST; MEM_STATUS (R133). -/
def kMem (o : Nat) : Nat := 0x1000000 + o

/-- A MEM_STATUS bit is set, with source 163 (R133, R425). -/
def State.memStatus (s : State) (b : Nat) : State := (s.orReg (kMem 4) (2 ^ b)).note 163

/-- An entry reaches the ECC log, or is lost and counted while the log is full (R133). -/
def State.eccPush (s : State) (kind a : Nat) : State :=
  let e : LogEntry :=
    { ts := s.now,
      w2 := w32 (2 ^ 31 + kind * 2 ^ 29 + saSpace a * 2 ^ 27 + eccDie a * 2 ^ 24 + saQuay a),
      w3 := w32 (saOffset a) }
  if s.eccLog.length < 16 then
    (({ s with eccLog := s.eccLog ++ [e] }).trace 6 0 (saQuay a) (logWords e)).note 163
  else (s.bump (kMem 0x38) 1).memStatus 3

/-- A read meets a correctable codeword: counted and logged, and left as it is until its write-back (R122). -/
def State.eccCorrected (s : State) (a : Nat) : State :=
  let k := if saSpace a = 1 then 0x10 else if saSpace a = 2 then 0x18 else 0x20
  (s.bump (kMem k) 1).eccPush 0 a

/-- An uncorrectable codeword is met: counted and logged with its KIND (R123, R133). -/
def State.eccUncorrectable (s : State) (kind a : Nat) : State :=
  (s.bump (kMem 0x28) 1).eccPush kind a

/-- The memory code of an uncorrectable codeword: HOLD_UE, CTX_UE, APRON_UE (R123). -/
def ueCode (a : Nat) : Nat := if saSpace a = 1 then 0x70 else if saSpace a = 2 then 0x71 else 0x72

/-- The marked codewords of a read in address order, up to the first that does not decode, which is answered. -/
def eccWalk : List (Nat × EccMark) → State → State × Option Nat
  | [], s => (s, none)
  | (k, .corrected) :: t, s => eccWalk t (s.eccCorrected k)
  | (k, .uncorrectable) :: _, s => (s.eccUncorrectable 1 k, some k)

/-- A read of n bytes at a stack address through the code: the bytes, and the uncorrectable codeword it met (R122,
R123). -/
def State.readStack (s : State) (a n : Nat) : State × List Byte × Option Nat :=
  let r := eccWalk (marksIn s.stack.ecc a n) s
  (r.1, s.stack.mem.read a n, r.2)

/-- The mark table after a write of n bytes: a codeword written whole is clean (R109). -/
def eccCleaned (t : Tab EccMark) (a n : Nat) : Tab EccMark :=
  t.filter (fun m => !(decide (a ≤ m.1) && decide (m.1 + cwBytes m.1 ≤ a + n)) &&
    !(m.2 == .corrected && decide (m.1 < a + n) && decide (a < m.1 + cwBytes m.1)))

/-- What a partial write reads of the old words through the code: corrected words count and log, uncorrectable ones
log KIND 0b10 and stay marked (R109). -/
def eccMerge (a n : Nat) : List (Nat × EccMark) → State → State
  | [], s => s
  | (k, m) :: t, s =>
    if decide (a ≤ k) && decide (k + cwBytes k ≤ a + n) then eccMerge a n t s
    else match m with
      | .corrected => eccMerge a n t (s.eccCorrected k)
      | .uncorrectable => eccMerge a n t (s.eccUncorrectable 2 k)

/-- The state with the stack's memory replaced. -/
def State.setMem (s : State) (m : Mem) : State := { s with stack := { s.stack with mem := m } }
/-- The state with the codeword marks replaced. -/
def State.setEcc (s : State) (t : Tab EccMark) : State := { s with stack := { s.stack with ecc := t } }

/-- The codewords of n bytes are written: merges first, then the marks that stay (R109). -/
def State.eccWrite (s : State) (a n : Nat) : State :=
  let s' := eccMerge a n (marksIn s.stack.ecc a n) s
  s'.setEcc (eccCleaned s'.stack.ecc a n)

/-- A codeword comes to hold an error; one that is uncorrectable stays so until it is written whole (R109, R121, R123). -/
def eccUpset (t : Tab EccMark) (m : Nat × EccMark) : Tab EccMark :=
  let k := m.1 / cwBytes m.1 * cwBytes m.1
  if tabFind t k = some .uncorrectable then t else tabSet t k m.2

/-- Bit errors of one tclk, which the spec leaves to the devices: in the stack, the logbooks and the silo (R121, R380,
entry 61). -/
def State.upset (s : State) : State :=
  let u := Config.upsets s.free
  let s := (s.setEcc (u.marks.foldl eccUpset s.stack.ecc)).useFree
  { s with silo := { s.silo with badPages := s.silo.badPages ++
      ((u.pages.map (fun p => p % 2 ^ 30 * 4096)).eraseDups.filter (fun p => !s.silo.badPages.contains p)) } }

/-- Bytes are written at a stack address, with merge and fresh check bits (R109). -/
def State.writeStack (s : State) (a : Nat) (bs : List Byte) : State :=
  let s := s.eccWrite a bs.length
  s.setMem (s.stack.mem.write a bs)

/-- Zeros with matching check bits over n bytes (R110, R119). -/
def State.zeroStack (s : State) (a n : Nat) : State :=
  (s.setMem (s.stack.mem.clear a n)).setEcc (tabClear s.stack.ecc a n)

/-- n bytes at an address become indeterminate (R56, R123). -/
def State.scrambleStack (s : State) (a n : Nat) : State :=
  let f := s.free
  { s.setMem (s.stack.mem.write a ((List.range n).map (fun i => Config.freeByte (f + i)))) with free := f + n }

/-! ### Tenants (R383 to R389) -/

/-- The recorded tenant of a quay, from its QTENANT register (R383, R398). -/
def State.tenantOf (s : State) (q : Nat) : Option Nat :=
  if s.fieldAt (qkey q 0x40) 30 1 = 1 then some (s.fieldAt (qkey q 0x40) 0 12) else none

/-- Container slots of a column: floor(201,326,592 ÷ S), or 0 while no fields are in force (R116). -/
def State.slotCount (s : State) : Nat :=
  if s.stack.container = 0 then 0 else 201326592 / s.stack.container

/-- The key of a slot's tag. -/
def tagKey (q slot : Nat) : Nat := q * 65536 + slot

/-- The tag of a container slot; entries at or above the slot count read 0 (R385, R387). -/
def State.tag (s : State) (q slot : Nat) : W16 :=
  if slot < s.slotCount then tabGet s.stack.tags (tagKey q slot) 0 else 0

/-- A slot's tag stored. -/
def State.setTag (s : State) (q slot : Nat) (v : W16) : State :=
  { s with stack := { s.stack with tags := tabPut s.stack.tags (tagKey q slot) v 0 } }

/-- A requester may touch the 64 B word at a stack address (R389). `own` is the requesting quay, if it is one. -/
def State.tenantOk (s : State) (own : Option Nat) (t : Option Nat) (a : Nat) : Bool :=
  let q := saQuay a
  if saSpace a = 2 && saOffset a < s.slotCount * s.stack.container then
    let g := s.tag q (saOffset a / s.stack.container)
    g.getLsbD 15 && t == some (g.toNat % 4096)
  else
    own == some q || (t.isSome && s.tenantOf q == t)

/-- The first 64 B word of a run that the check refuses, if any (R389, R390). -/
def State.tenantBad (s : State) (own : Option Nat) (t : Option Nat) (a : Nat) : Nat → Option Nat
  | 0 => none
  | n + 1 => if s.tenantOk own t a then s.tenantBad own t (a + 64) n else some a

/-! ### Counters of a quay (R151, R152) -/

/-- PARAMi. -/
def kParam (q i : Nat) : Nat := qkey q (0x400 + 4 * i)
/-- A key under which a write to a parameter register of a quay waits: PARAMi, or PARAMi_H (R151, R160, R174). -/
def paramKey (k : Nat) : Bool :=
  let o := k % 0x10000
  decide (qkey 0 0 ≤ k) && ((decide (0x400 ≤ o) && decide (o < 0x500)) || (decide (0xC00 ≤ o) && decide (o < 0xD00)))
/-- CNTn. -/
def kCnt (q n : Nat) : Nat := qkey q (0x500 + 4 * n)
/-- FAILn. -/
def kFail (q n : Nat) : Nat := qkey q (0x540 + 4 * n)

/-- A completion or arrival counts in CNTn, except while the quay is in RESET or SCRUB (R149, R177). -/
def State.arrive (s : State) (q n : Nat) : State :=
  if (s.quay q).st = .reset || (s.quay q).st = .scrub then s
  else s.setReg (kCnt q n) (s.reg (kCnt q n) + 1)

/-- A completion with status LOST counts in CNTn and in FAILn, which saturates at 0xFFFF (R149, R151). -/
def State.arriveLost (s : State) (q n : Nat) : State :=
  if (s.quay q).st = .reset || (s.quay q).st = .scrub then s
  else
    let f := s.fieldAt (kFail q n) 0 16
    (s.arrive q n).setField (kFail q n) 0 16 (if f < 65535 then f + 1 else f)

/-! ### Faults of a quay (R132, R178 to R180, R184) -/

/-- The state code of QSTATE (R178). -/
def qstateCode : QState → Nat
  | .reset => 1
  | .idle => 2
  | .run => 3
  | .draining => 4
  | .halted => 5
  | .faulted => 6
  | .stopped => 7
  | .scrub => 8

/-- "Stopped": IDLE, HALTED, FAULTED or STOPPED (R178). -/
def QState.isStopped : QState → Bool
  | .idle | .halted | .faulted | .stopped => true
  | _ => false

/-- The fault record: FAULT_STAT, FAULT_INFO and FAULT_TS (R180, R185). -/
def State.recordFault (s : State) (q code pc info : Nat) (precise : Bool) : State :=
  let st := w32 (1 + 4 * bit precise + code * 2 ^ 8 + (pc % 4096) * 2 ^ 16)
  ((s.setQreg q 0x20 st).setQreg q 0x24 (w32 info)).setCnt64 (qkey q 0x28) s.now

/-- A fault of a quay (R179, R180): the first since it left RUN is recorded and issue ends with PC on FAULT_PC; a later
one sets MULTI. A first fault met while the quay drains after a HALT or STOP makes the drain end in FAULTED (entry 9). -/
def State.quayFault (s : State) (q code pc info : Nat) (precise : Bool) : State :=
  let x := s.quay q
  if x.st = .run || (x.st = .draining && x.drainTo != .faulted) then
    (s.recordFault q code pc info precise).setQuay q
      { x with st := .draining, drainTo := .faulted, pc := BitVec.ofNat 13 (pc % 4096), hold := .none, stall := .none,
               confHeld := 0 }
  else if x.st = .draining then
    s.orReg (qkey q 0x20) 2
  else s

/-- An issue fault: PRECISE, at the program counter (R180). -/
def State.issueFault (s : State) (q code info : Nat) : State :=
  s.quayFault q code (s.quay q).pc.toNat info true

/-- A data fault of an issued instruction: PRECISE only if no later instruction had issued (R180). -/
def State.dataFault (s : State) (q id index code info : Nat) : State :=
  s.quayFault q code index info (decide ((s.quay q).nextId = id + 1))

/-- The bytes and codes of an uncorrectable read that serves a quay: HOLD_UE, CTX_UE or APRON_UE (R123). -/
def State.ueFault (s : State) (q id index bad : Nat) : State :=
  s.dataFault q id index (ueCode bad) (memInfo bad)

/-! ### Registers of the chart and tide block read by many units (R216) -/

/-- A register of the chart and tide block. -/
def kChart (o : Nat) : Nat := 0x100000 + o
/-- CHART_STATUS.STATE: 0 NONE, 1 CHECKING, 2 LOADING, 3 ARMED, 4 RUNNING, 5 STOPPING, 6 REFUSED. -/
def State.chartState (s : State) : Nat := s.fieldAt (kChart 4) 0 4
/-- A chart runs: RUNNING or STOPPING, until the boundary that stops its quays (R213, R214). -/
def State.chartRuns (s : State) : Bool := (s.chartState = 4 || s.chartState = 5) && !s.tide.ended
/-- The tide index (R187). -/
def State.tideIdx (s : State) : W64 := s.cnt64 (kChart 0x30)
/-- The time of the next boundary (R187). -/
def State.nextBnd (s : State) : W64 := s.cnt64 (kChart 0x38)

/-- Stillwater is active (R309). -/
def State.stillwater (s : State) : Bool := s.fieldAt 0x84 0 1 = 1

/-- A tide-variance source is met in the running tide (R197). -/
def State.variance (s : State) (b : Nat) : State :=
  { s with tide := { s.tide with var := s.tide.var ||| BitVec.ofNat 6 (2 ^ b) } }

/-- A Stillwater breach, 4 BR_STRETCH, 5 BR_REFRESH, 6 BR_RESCALE: only while Stillwater is active (R312, R425). -/
def State.breach (s : State) (b : Nat) : State :=
  if s.stillwater then (s.orReg 0x84 (2 ^ b)).note 167 else s

/-- Alignment of the module ends (R316). -/
def State.endAlign (s : State) : State := s.setField 0x1C00044 0 1 0

/-! ### Power codes (R347) -/

/-- A power code is logged: LAST_CODE and source 164 (R347, R425). -/
def State.powerCode (s : State) (code : Nat) : State := (s.setField 0x200004 16 8 code).note 164

end Sys2Proof.Machine
end

