-- ==== Sys2Proof/Machine/Mailbox.lean ====
section
/-! DEFINITION. The completion queue of the pilot mailbox (R278, R284): entries are written while there is room, and
wait in order while there is none. -/

namespace Sys2Proof.Machine

/-- A register of the mailbox block. -/
def kMb (o : Nat) : Nat := 0x1800000 + o

/-- Yeweric runs: it has started after boot and has not stopped (R286, R452). -/
def State.yeweric (s : State) : Bool := s.board.booted && s.fieldAt (kMb 4) 5 1 = 0

/-- A field of 16 bits that holds a ring count. -/
def State.ringCount (s : State) (o : Nat) : Nat := s.fieldAt (kMb o) 0 16

/-- CQ entries written and not yet freed: (CQ_TAIL − CQ_HEAD) mod 2^16. -/
def State.cqUsed (s : State) : Nat := (s.ringCount 0x24 + 65536 - s.ringCount 0x20) % 65536

/-- There is room for a completion: 64 places are kept for those of SQ1 (R284). -/
def State.cqRoom (s : State) (urgent : Bool) : Bool := decide (s.cqUsed < if urgent then 2048 else 1984)

/-- The 32 bytes of a completion entry with number n (R284). -/
def cqBytes (n : Nat) (ts : W64) (e : CqEntry) : List Byte :=
  leBytes 2 e.cmdId.toNat ++ [e.status, e.kind] ++ leBytes 2 e.berth.toNat ++ leBytes 1 (1 - fld n 11 1) ++ [e.opc] ++
  leBytes 8 e.tag.toNat ++ leBytes 4 e.count.toNat ++ leBytes 4 e.detail.toNat ++ leBytes 8 ts.toNat

/-- COUNT as it is when an entry is written: GENERATED of the berth concerned, or its last value once the berth is FREE
(R284). -/
def State.countNow (s : State) (e : CqEntry) : W32 :=
  if e.berth = 0xFFFF then e.count
  else match tabFind s.serve.berths e.berth.toNat with
    | some x => if x.tag = e.tag then w32 x.generated else e.count
    | none => e.count

/-- A TOKENS event that is written has counted what its COUNT says (R284). -/
def reportTokens (e : CqEntry) (s : State) : State :=
  match tabFind s.serve.berths e.berth.toNat with
  | some x =>
    if e.kind = 1 && x.tag = e.tag then
      { s with serve := { s.serve with berths := tabSet s.serve.berths e.berth.toNat { x with reported := e.count.toNat } } }
    else s
  | none => s

/-- A completion entry is written, mirrored to CQ_HOST where that is set, counted, notified and traced (R284, R425). -/
def State.cqWrite (s : State) (e : CqEntry) : State :=
  let e := { e with count := s.countNow e }
  let s := reportTokens e s
  let n := s.ringCount 0x24
  let bs := cqBytes n s.now e
  let s := { s with windows := s.windows.write (0x1830000 + 32 * (n % 2048)) bs }
  let host := s.pair (kMb 0x28)
  let s := if host = 0 then s else s.emit (.hostWrite (host + w64 (32 * (n % 2048))) bs)
  let s := s.setField (kMb 0x24) 0 16 ((n + 1) % 65536)
  (s.trace 5 e.status.toNat 0xFFFF ((List.range 4).map (fun i => w32 (leAt bs (4 * i) 4)))).note 172

/-- A waiting TOKENS event of a berth takes the COUNT current now (R284). -/
def mergeTokens (e : CqEntry) (w : CqEntry) : CqEntry :=
  if w.kind = 1 && w.berth = e.berth then { w with count := e.count, detail := w.detail ||| e.detail } else w

/-- A completion or event reaches the CQ, or waits for room (R284). -/
def State.cqPush (s : State) (e : CqEntry) : State :=
  if e.kind = 1 && s.serve.cq.any (fun w => w.kind = 1 && w.berth = e.berth) then
    { s with serve := { s.serve with cq := s.serve.cq.map (mergeTokens e) } }
  else if s.cqRoom e.urgent && (e.urgent || s.serve.cq.isEmpty) then s.cqWrite e
  else { s with serve := { s.serve with cq := s.serve.cq ++ [e] } }

/-- Waiting entries are written in order as far as there is room. -/
def cqDrain : List CqEntry → State → State
  | [], s => s
  | e :: t, s =>
    if s.cqRoom e.urgent then cqDrain t (s.cqWrite e)
    else { s with serve := { s.serve with cq := s.serve.cq ++ [e] } } |> cqDrain t

/-- CQ_HEAD moved: the waiting entries are tried again. -/
def State.cqFlush (s : State) : State :=
  cqDrain s.serve.cq { s with serve := { s.serve with cq := [] } }

/-- The completion of a command (R279, R284). -/
def cqDone (cmdId : W16) (opc : Byte) (ring status berth : Nat) (tag : W64) (count : W32) : CqEntry :=
  { cmdId := cmdId, status := BitVec.ofNat 8 status, kind := 0, berth := BitVec.ofNat 16 berth, opc := opc, tag := tag,
    count := count, detail := 0, urgent := ring = 1 }

end Sys2Proof.Machine
end

