-- ==== Sys2Proof/Machine/Num.lean ====
section
/-! DEFINITION. Number formats, exact values, rounding and conversion (spec/02_arithmetic.md) and the FP32 arithmetic of
the vector engine (R74, R75). Values are exact: a sign, a natural number and a power of two. -/

namespace Sys2Proof.Machine

/-- A decoded value: not a number, an infinity, or ± m × 2^e. -/
inductive Val where
  | nan
  | inf (neg : Bool)
  | fin (neg : Bool) (m : Nat) (e : Int)
deriving DecidableEq, Repr, Inhabited

/-- Which codes of a format are not finite (R26). -/
inductive Special where
  | none
  | ieee
  | e4m3
deriving DecidableEq, Repr

/-- A float format: exponent bits, mantissa bits, bias (R26). -/
structure Fmt where
  eb : Nat
  mb : Nat
  bias : Nat
  special : Special
deriving DecidableEq, Repr

/-- FP8 E4M3. -/
def fE4M3 : Fmt := { eb := 4, mb := 3, bias := 7, special := .e4m3 }
/-- FP8 E5M2. -/
def fE5M2 : Fmt := { eb := 5, mb := 2, bias := 15, special := .ieee }
/-- FP6 E3M2. -/
def fE3M2 : Fmt := { eb := 3, mb := 2, bias := 3, special := .none }
/-- FP6 E2M3. -/
def fE2M3 : Fmt := { eb := 2, mb := 3, bias := 1, special := .none }
/-- FP4 E2M1. -/
def fE2M1 : Fmt := { eb := 2, mb := 1, bias := 1, special := .none }
/-- BF16. -/
def fBF16 : Fmt := { eb := 8, mb := 7, bias := 127, special := .ieee }
/-- FP16. -/
def fFP16 : Fmt := { eb := 5, mb := 10, bias := 15, special := .ieee }
/-- FP32. -/
def fFP32 : Fmt := { eb := 8, mb := 23, bias := 127, special := .ieee }

/-- The exponent of a format's smallest step. -/
def Fmt.qmin (f : Fmt) : Int := 1 - (f.bias : Int) - (f.mb : Int)

/-- The value of a code (R26). -/
def Fmt.decode (f : Fmt) (c : Nat) : Val :=
  let ex := fld c f.mb f.eb
  let mn := fld c 0 f.mb
  let neg := bitAt c (f.eb + f.mb)
  if f.special = .ieee && ex = 2 ^ f.eb - 1 then (if mn = 0 then .inf neg else .nan)
  else if f.special = .e4m3 && ex = 2 ^ f.eb - 1 && mn = 2 ^ f.mb - 1 then .nan
  else if ex = 0 then .fin neg mn f.qmin
  else .fin neg (2 ^ f.mb + mn) ((ex : Int) - 1 + f.qmin)

/-- Rounding modes (R41). -/
inductive RMode where
  | rne
  | rtz
  | odd
deriving DecidableEq, Repr

/-- A magnitude m ÷ 2^sh rounded to an integer by a mode, and whether bits were lost (R36, R41). -/
def roundShift (mode : RMode) (m : Nat) (sh : Int) : Nat × Bool :=
  if sh ≤ 0 then (m <<< sh.natAbs, false)
  else
    let n := sh.toNat
    let q := m >>> n
    let r := m % 2 ^ n
    if r = 0 then (q, false)
    else match mode with
      | .rtz => (q, true)
      | .odd => (if q % 2 = 0 then q + 1 else q, true)
      | .rne =>
        let h := 2 ^ (n - 1)
        (if h < r || (r = h && q % 2 = 1) then q + 1 else q, true)

/-- The magnitude code of m × 2^e, m > 0, rounded by a mode; it may exceed the format's largest. -/
def Fmt.roundMag (f : Fmt) (mode : RMode) (m : Nat) (e : Int) : Nat :=
  let top := e + (Nat.log2 m : Int)
  let q := max (top - (f.mb : Int)) f.qmin
  (q - f.qmin).toNat * 2 ^ f.mb + (roundShift mode m (q - e)).1

/-- The magnitude code of the largest finite value (R42). -/
def Fmt.maxCode (f : Fmt) : Nat :=
  match f.special with
  | .ieee => (2 ^ f.eb - 1) * 2 ^ f.mb - 1
  | .e4m3 => 2 ^ (f.eb + f.mb) - 2
  | .none => 2 ^ (f.eb + f.mb) - 1

/-- The canonical NaN (R42). -/
def Fmt.nan (f : Fmt) : Nat :=
  match f.special with
  | .e4m3 => 2 ^ (f.eb + f.mb) - 1
  | _ => (2 ^ f.eb - 1) * 2 ^ f.mb + 2 ^ (f.mb - 1)

/-- The code of an infinity. -/
def Fmt.inf (f : Fmt) (neg : Bool) : Nat := bit neg * 2 ^ (f.eb + f.mb) + (2 ^ f.eb - 1) * 2 ^ f.mb

/-- Conversion of a value to a float format: its code and the CVO event (R42 steps 2, 3, 5, 6; R87 for infinities). -/
def Fmt.convert (f : Fmt) (mode : RMode) (sat : Bool) (v : Val) : Nat × Bool :=
  let tooBig := fun (neg : Bool) =>
    if sat then (bit neg * 2 ^ (f.eb + f.mb) + f.maxCode, true)
    else if f.special = .ieee then (f.inf neg, true) else (f.nan, true)
  match v with
  | .nan => (f.nan, false)
  | .inf neg => if f.special = .ieee then (f.inf neg, false) else tooBig neg
  | .fin _ 0 _ => (0, false)
  | .fin neg m e =>
    let c := f.roundMag mode m e
    if f.maxCode < c then tooBig neg else (bit neg * 2 ^ (f.eb + f.mb) + c, false)

/-- Conversion of a finite value to INT8: saturated, with the CVO event (R41, R42 step 4). -/
def convInt8 (mode : RMode) (neg : Bool) (m : Nat) (e : Int) : Nat × Bool :=
  let r := (roundShift mode m (-e)).1
  if neg then (if 128 < r then (0x80, true) else ((256 - r) % 256, false))
  else (if 127 < r then (0x7F, true) else (r, false))

/-! ### Accumulator arithmetic (R34 to R38) -/

/-- A finite value as a signed significand. -/
def sgn (neg : Bool) (m : Nat) : Int := if neg then -(m : Int) else (m : Int)

/-- A product placed in the window of anchor a: the integer added, OVF, INX (R36). -/
def place (a : Int) (neg : Bool) (m : Nat) (e : Int) : Int × Bool × Bool :=
  let r := roundShift .rne m (a - 96 - e)
  if 2 ^ 112 ≤ r.1 then (0, true, r.2) else (sgn neg r.1, false, r.2)

/-- A scale: an E8M0 or UE5M3 code as a value; `nan` for the NaN code (R29, R30). -/
def e8m0 (c : Nat) : Val := if c = 255 then .nan else .fin false 1 ((c : Int) - 127)
/-- UE5M3 block scale (R30). -/
def ue5m3 (c : Nat) : Val :=
  if c = 255 then .nan
  else
    let ex := fld c 3 5
    let mn := fld c 0 3
    if ex = 0 then .fin false mn (-17) else .fin false (8 + mn) ((ex : Int) - 18)

/-- The exact product of two values, `nan` where either is not finite (R33, R34). -/
def mulVal : Val → Val → Val
  | .fin n1 m1 e1, .fin n2 m2 e2 => .fin (n1 != n2) (m1 * m2) (e1 + e2)
  | _, _ => .nan

/-- An element after a product: the integer added modulo 2^128 and the events ORed (R34, R36, R37). -/
def AccElem.addProduct (x : AccElem) (a : Int) (p : Val) : AccElem :=
  match p with
  | .fin neg m e =>
    let r := place a neg m e
    { x with a := x.a + BitVec.ofInt 128 r.1, ovf := x.ovf || r.2.1, inx := x.inx || r.2.2 }
  | _ => { x with nf := true }

/-- An element after an accumulate-load of another (R45). -/
def AccElem.addElem (x y : AccElem) : AccElem :=
  { a := x.a + y.a, ovf := x.ovf || y.ovf, inx := x.inx || y.inx, nf := x.nf || y.nf }

/-- The value of an element under its anchor, times the scales (R40); `nan` by R42 step 1. -/
def AccElem.value (x : AccElem) (anchor : Int) (t r c : Val) : Val :=
  if x.nf || x.ovf then .nan
  else
    let v : Val := .fin x.a.msb (x.a.toInt.natAbs) (anchor - 96)
    mulVal (mulVal (mulVal v t) r) c

/-! ### FP32 arithmetic of the VE (R74, R75, R91) -/

/-- The value of an F. -/
def fval (x : W32) : Val := fFP32.decode x.toNat

/-- The canonical NaN of the VE (R75). -/
def fNan : W32 := 0x7FC00000

/-- A zero with a sign. -/
def fZero (neg : Bool) : W32 := if neg then 0x80000000 else 0

/-- ± m × 2^e rounded to FP32 with RNE; a zero keeps the sign given (R75). -/
def fRound (neg : Bool) (m : Nat) (e : Int) : W32 :=
  if m = 0 then fZero neg
  else
    let c := fFP32.roundMag .rne m e
    w32 (bit neg * 2 ^ 31 + min c 0x7F800000)

/-- An infinity of FP32. -/
def fInf (neg : Bool) : W32 := w32 (fFP32.inf neg)

/-- A value as an F; values that came from narrower formats are exact. -/
def fOfVal : Val → W32
  | .nan => fNan
  | .inf neg => fInf neg
  | .fin neg m e => fRound neg m e

/-- Exact sum of two finite values: significand and exponent. -/
def addExact (a b : Int) (ea eb : Int) : Int × Int :=
  let e := min ea eb
  (a * (2 ^ (ea - e).toNat : Nat) + b * (2 ^ (eb - e).toNat : Nat), e)

/-- A sum of finite values rounded; an exact zero is −0 only where both addends are negative zeros. -/
def fSum (n1 : Bool) (m1 : Nat) (e1 : Int) (n2 : Bool) (m2 : Nat) (e2 : Int) : W32 :=
  let s := addExact (sgn n1 m1) (sgn n2 m2) e1 e2
  if s.1 = 0 then fZero (n1 && n2) else fRound (decide (s.1 < 0)) s.1.natAbs s.2

/-- The sum of two values of which one may be an infinity. -/
def vAdd (a b : Val) : W32 :=
  match a, b with
  | .nan, _ => fNan
  | _, .nan => fNan
  | .inf x, .inf y => if x = y then fInf x else fNan
  | .inf x, _ => fInf x
  | _, .inf y => fInf y
  | .fin n1 m1 e1, .fin n2 m2 e2 => fSum n1 m1 e1 n2 m2 e2

/-- The exact product of two values, infinities included. -/
def vMul (a b : Val) : Val :=
  match a, b with
  | .nan, _ => .nan
  | _, .nan => .nan
  | .inf x, .inf y => .inf (x != y)
  | .inf x, .fin n m _ => if m = 0 then .nan else .inf (x != n)
  | .fin n m _, .inf y => if m = 0 then .nan else .inf (n != y)
  | .fin n1 m1 e1, .fin n2 m2 e2 => .fin (n1 != n2) (m1 * m2) (e1 + e2)

/-- A − negation of the sign bit. -/
def fNeg (a : W32) : W32 := a ^^^ 0x80000000
/-- ADD. -/
def fAdd (a b : W32) : W32 := vAdd (fval a) (fval b)
/-- A NaN operand is the canonical NaN (R75). -/
def fClean (a : W32) : W32 := if fval a = .nan then fNan else a
/-- SUB. -/
def fSub (a b : W32) : W32 := vAdd (fval a) (fval (fNeg b))
/-- MUL. -/
def fMul (a b : W32) : W32 := fOfVal (vMul (fval a) (fval b))
/-- FMA: A × B + C with one rounding. -/
def fFma (a b c : W32) : W32 := vAdd (vMul (fval a) (fval b)) (fval c)

/-- The quotient of two positive integers with a sticky last bit, and its exponent. -/
def divSticky (x y : Nat) : Nat × Int :=
  let k := 40 + Nat.log2 y
  let n := x * 2 ^ k
  (2 * (n / y) + bit (n % y != 0), -(k : Int) - 1)

/-- DIV, correctly rounded (R75); x ÷ 0 is an infinity, 0 ÷ 0 and ∞ ÷ ∞ are NaN. -/
def fDiv (a b : W32) : W32 :=
  match fval a, fval b with
  | .nan, _ => fNan
  | _, .nan => fNan
  | .inf _, .inf _ => fNan
  | .inf x, .fin n _ _ => fInf (x != n)
  | .fin n _ _, .inf y => fZero (n != y)
  | .fin n1 m1 e1, .fin n2 m2 e2 =>
    if m2 = 0 then (if m1 = 0 then fNan else fInf (n1 != n2))
    else if m1 = 0 then fZero (n1 != n2)
    else
      let q := divSticky m1 m2
      fRound (n1 != n2) q.1 (q.2 + e1 - e2)

/-- 1.0. -/
def fOne : W32 := 0x3F800000
/-- RCP. -/
def fRcp (a : W32) : W32 := fDiv fOne a

/-- Bits of the integer square root, from bit i downward. -/
def isqrtGo : Nat → Nat → Nat → Nat
  | 0, _, r => r
  | i + 1, n, r => isqrtGo i n (if (r + 2 ^ i) * (r + 2 ^ i) ≤ n then r + 2 ^ i else r)

/-- The integer square root. -/
def isqrt (n : Nat) : Nat := isqrtGo (Nat.log2 n / 2 + 1) n 0

/-- m × 2^e with an even exponent, as the significand and half of it. -/
def evenExp (m : Nat) (e : Int) : Nat × Int :=
  if e % 2 = 0 then (m, e / 2) else (2 * m, (e - 1) / 2)

/-- SQRT, correctly rounded; √−0 = −0; a negative operand gives NaN. -/
def fSqrt (a : W32) : W32 :=
  match fval a with
  | .nan => fNan
  | .inf neg => if neg then fNan else fInf false
  | .fin neg m e =>
    if m = 0 then fZero neg
    else if neg then fNan
    else
      let p := evenExp m e
      let n := p.1 * 2 ^ 64
      let r := isqrt n
      fRound false (2 * r + bit (r * r != n)) (p.2 - 33)

/-- RSQRT, correctly rounded; ±0 gives an infinity of the same sign. -/
def fRsqrt (a : W32) : W32 :=
  match fval a with
  | .nan => fNan
  | .inf neg => if neg then fNan else 0
  | .fin neg m e =>
    if m = 0 then fInf neg
    else if neg then fNan
    else
      let p := evenExp m e
      let k := 40 + Nat.log2 p.1
      let n := 2 ^ (2 * k)
      let r := isqrt (n / p.1)
      fRound false (2 * r + bit (r * r * p.1 != n)) (-(k : Int) - 1 - p.2)

/-- FLOOR. -/
def fFloor (a : W32) : W32 :=
  match fval a with
  | .nan => fNan
  | .inf neg => fInf neg
  | .fin neg m e =>
    if m = 0 || 0 ≤ e then a
    else
      let n := e.natAbs
      let i := if neg then (m + 2 ^ n - 1) / 2 ^ n else m / 2 ^ n
      fRound neg i 0

/-- SCALEB: A × 2^B, B clamped to −300 to 300. -/
def fScaleb (a b : W32) : W32 :=
  match fval a with
  | .fin neg m e => fRound neg m (e + max (-300) (min 300 b.toInt))
  | v => fOfVal v

/-- CVTBF: A rounded to BF16 precision, kept as F. -/
def fCvtbf (a : W32) : W32 :=
  match fval a with
  | .fin neg m e =>
    if m = 0 then a else w32 (bit neg * 2 ^ 31 + min (fBF16.roundMag .rne m e) 0x7F80 * 2 ^ 16)
  | v => fOfVal v

/-- The order of two finite values or infinities: −1, 0 or 1. -/
def vCmp (a b : Val) : Int :=
  match a, b with
  | .inf x, .inf y => if x = y then 0 else if x then -1 else 1
  | .inf x, _ => if x then -1 else 1
  | _, .inf y => if y then 1 else -1
  | .fin n1 m1 e1, .fin n2 m2 e2 =>
    let d := (addExact (sgn n1 m1) (sgn (!n2) m2) e1 e2).1
    if d < 0 then -1 else if d = 0 then 0 else 1
  | _, _ => 0

/-- Predicates of FCMP (R91): a NaN makes every predicate false except NE and UNORD. -/
def fPred (p : Nat) (a b : W32) : Bool :=
  let va := fval a
  let vb := fval b
  if va = .nan || vb = .nan then p = 1 || p = 6
  else
    let c := vCmp va vb
    if p = 0 then c = 0 else if p = 1 then c ≠ 0 else if p = 2 then c < 0 else if p = 3 then c ≤ 0
    else if p = 4 then 0 < c else if p = 5 then 0 ≤ c else if p = 6 then false else true

/-- MAX; MAX(−0, +0) = +0, a NaN gives NaN (R91). -/
def fMax (a b : W32) : W32 :=
  if fval a = .nan || fval b = .nan then fNan
  else
    let c := vCmp (fval a) (fval b)
    if c < 0 then b else if 0 < c then a else a &&& b

/-- MIN; MIN(−0, +0) = −0 (R91). -/
def fMin (a b : W32) : W32 :=
  if fval a = .nan || fval b = .nan then fNan
  else
    let c := vCmp (fval a) (fval b)
    if c < 0 then a else if 0 < c then b else a ||| b

/-- Rounding modes of CVTFI: RNE, RTZ, toward −∞, toward +∞ (R91). -/
def roundInt (mode : Nat) (neg : Bool) (m : Nat) (e : Int) : Int :=
  let t := roundShift .rtz m (-e)
  let mag :=
    if mode = 0 then (roundShift .rne m (-e)).1
    else if mode = 1 then t.1
    else if mode = 2 then (if neg && t.2 then t.1 + 1 else t.1)
    else (if !neg && t.2 then t.1 + 1 else t.1)
  sgn neg mag

/-- CVTFI: the integer and the CVO event (R91). -/
def fToInt (mode : Nat) (a : W32) : W32 × Bool :=
  match fval a with
  | .nan => (0, true)
  | .inf neg => (if neg then 0x80000000 else 0x7FFFFFFF, true)
  | .fin neg m e =>
    let i := if 40 ≤ e then sgn neg (if m = 0 then 0 else 2 ^ 40) else roundInt mode neg m e
    if i < -(2 ^ 31) then (0x80000000, true)
    else if 2 ^ 31 - 1 < i then (0x7FFFFFFF, true)
    else (BitVec.ofInt 32 i, false)

/-- CVTIF: an integer rounded to F. -/
def fOfInt (a : W32) : W32 := fRound a.msb a.toInt.natAbs 0

/-! EXP and LOG: the largest F at or below the true result, from a series in 256-bit fixed point, moved by the free
number of units in the last place that R75 allows (entry 10). -/

/-- ln 2 × 2^256. -/
def ln2Fix : Int := 0xB17217F7D1CF79ABC9E3B39803F2F6AF40F343267298B62D8A0D175B8BAAFA2B

/-- Terms x^n ÷ n! from n on, in 256-bit fixed point. -/
def expSeries : Nat → Nat → Int → Int → Int
  | 0, _, _, _ => 0
  | k + 1, n, x, t => t + expSeries k (n + 1) x (t * x / 2 ^ 256 / (n + 1 : Nat))

/-- Terms z^(2n+1) ÷ (2n + 1) of the inverse hyperbolic tangent. -/
def atanhSeries : Nat → Nat → Int → Int → Int
  | 0, _, _, _ => 0
  | k + 1, n, z2, t => t / (2 * n + 1 : Nat) + atanhSeries k (n + 1) z2 (t * z2 / 2 ^ 256)

/-- An F from its place in the order of the finite values and infinities. -/
def fOfOrd (i : Int) : W32 :=
  if i < 0 then w32 (2 ^ 31 + min i.natAbs 0x7F800000) else w32 (min i.toNat 0x7F800000)

/-- The place in that order of the largest F at or below x × 2^e. -/
def ordFloor (x : Int) (e : Int) : Int :=
  if x = 0 then 0
  else
    let n := x.natAbs
    let c := fFP32.roundMag .rtz n e
    if 0 ≤ x then (c : Int)
    else
      let exact := fFP32.decode c
      match exact with
      | .fin _ m e' => if (addExact n (-(m : Int)) e e').1 = 0 then -(c : Int) else -(c : Int) - 1
      | _ => -(c : Int)

/-- The significand and exponent of e^A for a finite A (R75). -/
def expFix (neg : Bool) (m : Nat) (e : Int) : Int × Int :=
  let x := sgn neg (if 0 ≤ e + 256 then m <<< (e + 256).toNat else m >>> (e + 256).natAbs)
  let k := x / ln2Fix
  let r := x % ln2Fix
  (expSeries 64 0 r (2 ^ 256), k - 256)

/-- EXP (R75, R90): e^A within 2 units in the last place. -/
def fExp (a : W32) : W32 :=
  match fval a with
  | .nan => fNan
  | .inf neg => if neg then 0 else fInf false
  | .fin neg m e =>
    if 0 < m && 8 ≤ e + (Nat.log2 m : Int) then (if neg then fOfOrd (max 0 ((Config.expUlps a).val - 1)) else fInf false)
    else
      let x := expFix neg m e
      if 128 < x.2 + (Nat.log2 x.1.toNat : Int) + 1 then fInf false
      else fOfOrd (max 0 (ordFloor x.1 x.2 + (Config.expUlps a).val - 1))

/-- The significand and exponent of ln A for a finite A > 0. -/
def logFix (m : Nat) (e : Int) : Int × Int :=
  let l := Nat.log2 m
  let one : Int := (2 ^ l : Nat)
  let z := ((m : Int) - one) * 2 ^ 256 / ((m : Int) + one)
  let ln := 2 * atanhSeries 90 0 (z * z / 2 ^ 256) z
  (ln + (e + l) * ln2Fix, -256)

/-- LOG (R75, R90): ln A within 2 units in the last place; ±0 gives −∞, a negative operand NaN. -/
def fLog (a : W32) : W32 :=
  match fval a with
  | .nan => fNan
  | .inf neg => if neg then fNan else fInf false
  | .fin neg m e =>
    if m = 0 then fInf true
    else if neg then fNan
    else
      let x := logFix m e
      fOfOrd (ordFloor x.1 x.2 + (Config.logUlps a).val - 1)

end Sys2Proof.Machine
end

