-- ==== Sys2Proof/Machine/Operands.lean ====
section
/-! DEFINITION. Quay instruction words: fields, adjustment, the checks of steps 1 to 4 of R138 with the bit that
FAULT_INFO reports (R184), operand ranges, and the regions an instruction declares (spec/06, spec/07). -/

namespace Sys2Proof.Machine

/-- The defined opcodes (R137). -/
inductive Op where
  | nop | halt | wtide | waitc | fence | pset | padd | cnt | cmpb | mov | send
  | mmaOw | mmaAc | mmaLdo | mmaLda | mmaDr | vch | vcmp | vexp
deriving DecidableEq, Repr

/-- The opcode of a code; every other code is undefined (R137). -/
def opOfCode (c : Nat) : Option Op :=
  match c with
  | 0x01 => some .nop
  | 0x02 => some .halt
  | 0x03 => some .wtide
  | 0x04 => some .waitc
  | 0x05 => some .fence
  | 0x08 => some .pset
  | 0x09 => some .padd
  | 0x0A => some .cnt
  | 0x0B => some .cmpb
  | 0x10 => some .mov
  | 0x11 => some .send
  | 0x20 => some .mmaOw
  | 0x21 => some .mmaAc
  | 0x22 => some .mmaLdo
  | 0x23 => some .mmaLda
  | 0x24 => some .mmaDr
  | 0x30 => some .vch
  | 0x31 => some .vcmp
  | 0x32 => some .vexp
  | _ => none

/-- A field of a word. -/
def wf (w : W128) (lo n : Nat) : Nat := fld w.toNat lo n

/-- Lowest bit, width and signedness of the field of a letter (1 A, 2 B, 3 C), by the tables of R137 to R156. -/
def letterField (op : Op) (letter : Nat) : Option (Nat × Nat × Bool) :=
  match op, letter with
  | .wtide, 1 => some (32, 20, false)
  | .waitc, 1 => some (32, 32, false)
  | .pset, 1 => some (32, 32, false)
  | .padd, 1 => some (64, 32, false)
  | .cnt, 1 => some (64, 32, false)
  | .cmpb, 1 => some (48, 12, false)
  | .cmpb, 2 => some (64, 32, false)
  | .mov, 1 => some (24, 32, false)
  | .mov, 2 => some (56, 32, false)
  | .mov, 3 => some (104, 16, false)
  | .send, 1 => some (24, 13, false)
  | .send, 2 => some (47, 16, false)
  | .send, 3 => some (63, 32, false)
  | .mmaOw, 1 | .mmaAc, 1 => some (44, 13, false)
  | .mmaOw, 2 | .mmaAc, 2 => some (70, 19, false)
  | .mmaOw, 3 | .mmaAc, 3 => some (107, 10, true)
  | .mmaLdo, 1 | .mmaLda, 1 => some (44, 13, false)
  | .mmaLdo, 2 | .mmaLda, 2 => some (26, 6, false)
  | .mmaLdo, 3 | .mmaLda, 3 => some (70, 10, true)
  | .mmaDr, 1 => some (44, 13, false)
  | .mmaDr, 2 => some (70, 13, false)
  | .mmaDr, 3 => some (26, 6, false)
  | .vch, 1 => some (24, 13, false)
  | .vcmp, 1 => some (24, 14, false)
  | .vcmp, 2 => some (38, 14, false)
  | .vcmp, 3 => some (52, 14, false)
  | .vexp, 1 => some (24, 14, false)
  | .vexp, 2 => some (66, 14, false)
  | _, _ => none

/-- Reserved body fields: lowest bit and width (R142 to R158). -/
def reservedFields (op : Op) : List (Nat × Nat) :=
  match op with
  | .nop | .halt => [(40, 88)]
  | .wtide => [(52, 76)]
  | .waitc => [(28, 4), (84, 44)]
  | .fence => [(29, 99)]
  | .pset => [(30, 2), (64, 64)]
  | .padd => [(36, 28), (96, 32)]
  | .cnt => [(31, 1), (38, 26), (96, 32)]
  | .cmpb => [(60, 4), (96, 32)]
  | .mov => [(123, 5)]
  | .send => [(107, 21)]
  | .mmaOw | .mmaAc => [(43, 1), (117, 11)]
  | .mmaLdo | .mmaLda => [(38, 6), (80, 48)]
  | .mmaDr => [(84, 44)]
  | .vch => [(37, 91)]
  | .vcmp => [(109, 19)]
  | .vexp => [(88, 40)]

/-- The lowest bits of fields that hold a value their table marks reserved. -/
def reservedValues (op : Op) (w : W128) : List Nat :=
  let at' := fun (lo n : Nat) (p : Nat → Bool) => if p (wf w lo n) then [lo] else []
  match op with
  | .wtide => at' 24 2 (· == 3)
  | .fence => at' 24 5 (· == 0)
  | .cnt => at' 28 3 (decide <| 5 ≤ ·)
  | .cmpb => at' 27 3 (· == 7) ++ at' 30 3 (decide <| 6 ≤ ·)
  | .mmaOw | .mmaAc => at' 24 3 (· == 7) ++ at' 29 2 (· == 3) ++ at' 34 4 (decide <| 14 ≤ ·) ++ at' 38 4 (decide <| 14 ≤ ·)
  | .mmaDr => at' 38 3 (· == 7) ++ at' 41 2 (· == 3)
  | .vexp => at' 85 2 (· == 3)
  | .mov => if wf w 122 1 = 1 then at' 61 4 (decide <| 14 ≤ ·) ++ at' 65 23 (· != 0) else []
  | _ => []

/-- The lowest bits of fields that the form or mode does not use and that do not hold their unused value: 0, or none
for a descriptor (R138 step 2). -/
def unusedFields (op : Op) (w : W128) : List Nat :=
  let must := fun (lo n v : Nat) => if wf w lo n = v then [] else [lo]
  match op with
  | .mmaOw | .mmaAc => if 5 ≤ wf w 38 4 && wf w 38 4 ≤ 9 then [] else must 70 19 0 ++ must 89 12 0
  | .mmaDr =>
    (if wf w 83 1 = 1 then [] else must 70 13 0) ++
    (if wf w 38 3 = 6 then must 41 2 0 ++ must 43 1 0 ++ must 83 1 0 else [])
  | .mov => if wf w 122 1 = 1 then must 88 10 0 ++ must 98 6 0 ++ must 104 16 0 ++ must 120 1 0 else []
  | .send =>
    if wf w 105 1 = 1 then must 99 4 0
    else if wf w 37 10 = 0 then must 24 13 0 else []
  | .vcmp => if wf w 98 1 = 0 then must 80 14 0x3FFF ++ must 99 10 0 else []
  | .vexp => (if wf w 85 2 = 2 then [] else must 52 14 0x3FFF) ++ (if wf w 84 1 = 1 then [] else must 80 4 0)
  | .cnt => (if wf w 28 3 = 3 || wf w 28 3 = 4 then [] else must 32 6 0) ++ (if wf w 28 3 ≤ 1 then [] else must 64 32 0)
  | .cmpb =>
    (if wf w 27 3 = 6 then must 30 3 0 ++ must 33 6 0 ++ must 39 1 0 ++ must 40 6 0 ++ must 64 32 0
     else (if 3 ≤ wf w 30 3 then must 33 6 0 else []) ++ (if wf w 39 1 = 1 then must 64 32 0 else must 40 6 0)) ++
    (if wf w 46 2 = 0 then must 48 12 0 else [])
  | .wtide => (if wf w 24 2 = 1 then [] else must 26 6 0) ++ (if wf w 24 2 = 2 then [] else must 32 20 0)
  | _ => []

/-- An adjust slot that breaks R136 offends with its target and parameter fields. -/
def badSlot (op : Op) (w : W128) (lo : Nat) : List Nat :=
  let t := wf w lo 2
  if t = 0 then (if wf w (lo + 2) 6 = 0 then [] else [lo])
  else if (letterField op t).isNone then [lo]
  else if op = .mov && wf w 122 1 = 1 && t = 2 then [lo]
  else []

/-- Step 2 of R138: the lowest offending bit. -/
def step2 (op : Op) (w : W128) : Option Nat :=
  listMin (((reservedFields op).filter (fun f => wf w f.1 f.2 != 0)).map (·.1) ++ reservedValues op w ++
    unusedFields op w ++ badSlot op w 8 ++ badSlot op w 16)

/-- A word with a field replaced. -/
def putField (w : W128) (lo n v : Nat) : W128 :=
  let m : W128 := BitVec.ofNat 128 ((2 ^ n - 1) <<< lo)
  (w &&& ~~~m) ||| (BitVec.ofNat 128 (v <<< lo) &&& m)

/-- The 32-bit sum of a field and what is added to it, as the field's new code, or none where the field cannot encode
it (R136). -/
def adjustedCode (code n : Nat) (signed : Bool) (add : Nat) : Option Nat :=
  let v := if signed then sext code n else (code : Int)
  let sum := wrap (v + add) 32
  if n = 32 then some sum
  else if signed then
    let i := sext sum 32
    if -(2 ^ (n - 1) : Int) ≤ i && i < (2 ^ (n - 1) : Int) then some (wrap i n) else none
  else if sum < 2 ^ n then some sum else none

/-- Step 3 of R138 on the field of one letter: the word with the adjusted value, or the lowest bit of the slots that
name it. -/
def adjustLetter (s : State) (q : Nat) (op : Op) (letter : Nat) (w : W128) : W128 × Option Nat :=
  match letterField op letter with
  | none => (w, none)
  | some (lo, n, signed) =>
    let t0 := wf w 8 2 == letter
    let t1 := wf w 16 2 == letter
    if !t0 && !t1 then (w, none)
    else
      let a0 := if t0 then (s.reg (kParam q (wf w 10 6))).toNat else 0
      let a1 := if t1 then (s.reg (kParam q (wf w 18 6))).toNat else 0
      match adjustedCode (wf w lo n) n signed (a0 + a1) with
      | some c => (putField w lo n c, none)
      | none => (w, some (if t0 then 8 else 16))

/-- Step 3 of R138: the adjusted word and the lowest offending bit. -/
def adjustWord (s : State) (q : Nat) (op : Op) (w : W128) : W128 × Option Nat :=
  let a := adjustLetter s q op 1 w
  let b := adjustLetter s q op 2 a.1
  let c := adjustLetter s q op 3 b.1
  (c.1, listMin (a.2.toList ++ b.2.toList ++ c.2.toList))

/-! ### Formats and shapes of crane instructions (R52, R141 to R145) -/

/-- BF16 and FP16 codes of R141. -/
def isWide (f : Nat) : Bool := f = 12 || f = 13
/-- MX formats of R141. -/
def isMx (f : Nat) : Bool := 5 ≤ f && f ≤ 9
/-- Element bits of a format code (R26, R141). -/
def fmtBits (f : Nat) : Nat :=
  if isWide f then 16
  else if f = 2 || f = 3 || f = 7 || f = 8 then 6
  else if f = 4 || f = 9 || f = 10 then 4
  else 8
/-- K_t of a weight format (R51, R52). -/
def tileK (wfmt : Nat) : Nat := if fmtBits wfmt = 4 then 64 else 32
/-- Element bytes of a tile image: 64 columns of K_t elements (R52). -/
def tileBytes (wfmt : Nat) : Nat := 64 * tileK wfmt * fmtBits wfmt / 8
/-- Scale bytes of a tile image (R52). -/
def tileScaleBytes (wfmt : Nat) : Nat :=
  if wfmt = 10 then 256 else if wfmt = 9 then 128 else if isMx wfmt then 64 else 0
/-- Cranes of a CSET code (R142). -/
def csetCranes (c : Nat) : List Nat :=
  if c < 4 then [c] else if c = 4 then [0, 1] else if c = 5 then [2, 3] else [0, 1, 2, 3]
/-- Rows per crane of an MC code. -/
def mcRows (c : Nat) : Nat := if c = 0 then 1 else if c = 1 then 4 else if c = 2 then 16 else 64
/-- Chain count of a CHAIN code. -/
def chainTiles (c : Nat) : Nat := if c = 0 then 1 else if c = 1 then 2 else 4
/-- Slots of a tile (R53). -/
def tileSlots (wfmt : Nat) : Nat := if isWide wfmt then 2 else 1
/-- Crane set as a mask. -/
def craneMask (cs : List Nat) : Nat := cs.foldl (fun m c => m + 2 ^ c) 0

/-- Row bytes of a drain target: FP32, BF16, FP16, E4M3, E5M2, INT8, ACC128 (R66, R145). -/
def drainRowBytes (t : Nat) : Nat :=
  if t = 0 then 256 else if t ≤ 2 then 128 else if t ≤ 5 then 64 else 1056

/-- Step 4 of R138 for the combinations of R32, R59, R143 to R149, R154, R156 and R147. -/
def badCombos (s : State) (q : Nat) (op : Op) (w : W128) : List Nat :=
  match op with
  | .mmaOw | .mmaAc =>
    let cset := wf w 24 3
    let wfmt := wf w 34 4
    let afmt := wf w 38 4
    let t := chainTiles (wf w 29 2)
    let wide := isWide wfmt
    (if 4 ≤ cset && wf w 27 2 != 3 then [24] else []) ++
    (if t = 4 && (wide || isWide afmt) then [29] else []) ++
    (if wide && wf w 32 2 % 2 = 1 then [32] else []) ++
    (if 4 < wf w 32 2 + t * tileSlots wfmt then [29] else []) ++
    (if wf w 101 6 % mcRows (wf w 27 2) != 0 then [27] else []) ++
    (if afmt = 10 then [38] else []) ++
    (if wide != isWide afmt then [34] else [])
  | .mmaLdo | .mmaLda =>
    (if 63 < wf w 26 6 + wf w 32 6 then [26] else []) ++ (if wf w 57 13 < 17 then [57] else [])
  | .mmaDr =>
    (if 63 < wf w 26 6 + wf w 32 6 then [26] else []) ++
    (if wf w 57 13 < ceilDiv (drainRowBytes (wf w 38 3)) 64 then [38] else [])
  | .mov =>
    if wf w 122 1 = 1 then
      let slot := wf w 57 2
      let nslot := wf w 59 2
      (if wf w 48 8 != q || wf w 46 2 != 1 then [24] else []) ++
      (if isWide (wf w 61 4) && (slot % 2 = 1 || nslot % 2 = 0) then [57] else []) ++
      (if 3 < slot + nslot then [57] else [])
    else
      let rb := (wf w 88 10 + 1) * 64
      let n := wf w 98 6
      let strided := n * wf w 104 16 * 64 + rb
      let packed := (n + 1) * rb
      let sl := if wf w 120 1 = 0 then strided else packed
      let dl := if wf w 120 1 = 0 then packed else strided
      let so := wf w 24 22 * 64
      let do' := wf w 56 22 * 64
      if wf w 46 10 = wf w 78 10 && so < do' + dl && do' < so + sl then [24] else []
  | .send =>
    if wf w 105 1 = 1 then (if wf w 37 10 = 0 then [37] else [])
    else if wf w 37 10 = 0 && wf w 63 24 != 0 then [37] else []
  | .cmpb => if (wf w 30 3 = 1 || wf w 30 3 = 2) && 15 < wf w 33 6 && wf w 27 3 != 6 then [30] else []
  | .wtide =>
    if wf w 24 2 = 1 && s.chartRuns && s.fieldAt (kChart 0x40) 13 6 < wf w 26 6 then [26] else []
  | _ => []

/-- Step 4 of R138: the unused-field rule on the adjusted values, and the combinations. -/
def step4 (s : State) (q : Nat) (op : Op) (w : W128) : Option Nat :=
  listMin (unusedFields op w ++ badCombos s q op w)

/-! ### Stack addresses and apron ranges of the fields (R139, R140) -/

/-- The stack address of a SADR field: bits [37:6] (R140). -/
def sadr (v : Nat) : Nat := v * 64

/-- A code with its FAULT_INFO. -/
abbrev Raised := Nat × Nat

/-- R139 on an apron range of n bytes at a byte address. -/
def apronBounds (a n : Nat) : Option Raised :=
  if 0x60000 < a + n then some (0x74, a % 2 ^ 28) else none

/-- R105 on n bytes at the stack address of a SADR field whose lowest instruction bit is `lo`. -/
def sadrCheck (s : State) (v n lo : Nat) : Option Raised :=
  (s.checkStack (sadr v) n).map (fun c => if c = 0x12 then (c, lo) else (c, memInfo (sadr v)))

/-- R105 on the RADDR of a SEND, whose quay belongs to another module's map (entry 11). -/
def raddrCheck (v n : Nat) : Option Raised :=
  let a := sadr v
  if saSpace a = 3 then some (0x12, 63)
  else if 144 ≤ saQuay a then some (0x73, memInfo a)
  else if spaceSize (saSpace a) < saOffset a + n then some (0x74, memInfo a)
  else none

/-- The first of several checks that raises. -/
def firstRaised : List (Option Raised) → Option Raised
  | [] => none
  | some r :: _ => some r
  | none :: t => firstRaised t

/-! ### Regions (R165 to R168) -/

/-- The region of an apron range. -/
def apronRegion (a n : Nat) (write : Bool) : Region :=
  { kind := .apron, lo := a / 64, hi := (a + n - 1) / 64, cranes := 0, write := write }

/-- The region of n bytes of the issuing quay's own space; none in another quay's (R166). -/
def stackRegion (q a n : Nat) (write : Bool) : List Region :=
  if saQuay a != q then []
  else
    let k := if saSpace a = 0 then RKind.apron else if saSpace a = 1 then .hold else .context
    [{ kind := k, lo := saOffset a / 64, hi := (saOffset a + n - 1) / 64, cranes := 0, write := write }]

/-- A weight-buffer half. -/
def halfRegion (h : Nat) (write : Bool) : Region := { kind := .half, lo := h, hi := h, cranes := 0, write := write }

/-- Rows of a set of cranes. -/
def accRegion (mask m n : Nat) (write : Bool) : Region :=
  { kind := .acc, lo := m, hi := m + n - 1, cranes := mask, write := write }

/-- Two regions conflict (R167). -/
def conflicts (a b : Region) : Bool :=
  a.kind = b.kind && (a.write || b.write) && decide (a.lo ≤ b.hi) && decide (b.lo ≤ a.hi) &&
  (a.kind != .acc || (a.cranes &&& b.cranes) != 0)

/-- An overlap is waived (R168): crane against crane on accumulators, VE against VE, a stream-behind MMA against the
fill of its half. -/
def waived (u : Unit') (streamBehind : Bool) (r : Region) (e : SbEntry) : Bool :=
  match u, e.unit with
  | .ve, .ve => true
  | .cranes, .cranes => r.kind = .acc
  | .cranes, .gantry _ => streamBehind && r.kind = .half && e.region.write
  | _, _ => false

/-- Condition 2 of R162: some region of the instruction conflicts with a live entry. -/
def anyConflict (x : Quay) (u : Unit') (streamBehind : Bool) (rs : List Region) : Bool :=
  rs.any (fun r => x.sb.any (fun e => conflicts r e.region && !waived u streamBehind r e))

end Sys2Proof.Machine
end

