-- ==== Sys2Proof/Machine/Flags.lean ====
section
/-! DEFINITION. Status flags of a quay: ACC_STATUS (R48), VE_STATUS (R103), the QEVT bits (R185) and the counters that
go with instruction issue. -/

namespace Sys2Proof.Machine

/-- ACC_STATUS bits of crane c that the events of an element set: OVF, INX, NF (R48). -/
def accBits (c : Nat) (ovf inx nf : Bool) : Nat := (bit ovf + 2 * bit inx + 4 * bit nf) * 2 ^ (4 * c)

/-- The events of crane c reach ACC_STATUS (R48). -/
def State.accStatus (s : State) (q c : Nat) (ovf inx nf : Bool) : State :=
  s.orReg (qkey q 0x180) (accBits c ovf inx nf)

/-- Conversion events of crane c: CVO, and NF for a non-finite scale (R48). -/
def State.convStatus (s : State) (q c : Nat) (cvo nf : Bool) : State :=
  s.orReg (qkey q 0x180) ((8 * bit cvo + 4 * bit nf) * 2 ^ (4 * c))

/-- Events of a VE instruction, in the bit order of VE_STATUS (R103). -/
structure VeEvents where
  nan : Bool
  divz : Bool
  cvo : Bool
  cmpOvf : Bool
  expOor : Bool
  lutRange : Bool
deriving DecidableEq, Repr

/-- No event. -/
def VeEvents.none : VeEvents :=
  { nan := false, divz := false, cvo := false, cmpOvf := false, expOor := false, lutRange := false }

/-- Events of two parts of an instruction together. -/
def VeEvents.or (a b : VeEvents) : VeEvents :=
  { nan := a.nan || b.nan, divz := a.divz || b.divz, cvo := a.cvo || b.cvo, cmpOvf := a.cmpOvf || b.cmpOvf,
    expOor := a.expOor || b.expOor, lutRange := a.lutRange || b.lutRange }

/-- The events as bits of VE_STATUS (R103). -/
def VeEvents.bits (e : VeEvents) : Nat :=
  bit e.nan + 2 * bit e.divz + 4 * bit e.cvo + 8 * bit e.cmpOvf + 16 * bit e.expOor + 32 * bit e.lutRange

/-- The events reach VE_STATUS (R103). -/
def State.veStatus (s : State) (q : Nat) (e : VeEvents) : State := s.orReg (qkey q 0x200) e.bits

/-- A QCMD command is not accepted: CMD_REJ (R182). -/
def State.qcmdRej (s : State) (q : Nat) : State := s.orReg (qkey q 0x10) 1

/-- A load or a write of LOG_LEN or LOG_START is refused: LOG_REFUSED (R172). -/
def State.logRefused (s : State) (q : Nat) : State := s.orReg (qkey q 0x10) 2

/-- A corrected logbook fetch: LOG_CE and LOG_CE_CNT, which saturates (R171, R185). -/
def State.logCorrected (s : State) (q : Nat) : State :=
  let n := s.fieldAt (qkey q 0x10) 16 16
  (s.orReg (qkey q 0x10) 4).setField (qkey q 0x10) 16 16 (if n < 65535 then n + 1 else n)

/-- One of the six issue counters of R185 advances by n, unless HOLD stops them: 0 ISSUED, 1 ST_WAIT, 2 ST_BR, 3 ST_CONF,
4 ST_FULL, 5 ST_UNIT. -/
def State.issueCount (s : State) (q i n : Nat) : State := s.count (qkey q 0x130) (qkey q (0x100 + 8 * i)) n

/-- One of the crane counters of R73 advances: 0 FRZ_ANY, 1 FRZ_WB, 2 FRZ_ACT, 3 FRZ_ACCP, 4 FRZ_DRAIN, 5 CRANE_ACT. -/
def State.craneCount (s : State) (q i n : Nat) : State := s.count (qkey q 0x1D0) (qkey q (0x1A0 + 8 * i)) n

/-- VE_ACT (0) or VE_STALL (1) advances (R103). -/
def State.veCount (s : State) (q i n : Nat) : State := s.count (qkey q 0x218) (qkey q (0x208 + 8 * i)) n

/-- SB_MAX takes the entries in use where they exceed it (R185). -/
def State.sbMax (s : State) (q : Nat) : State :=
  let n := (s.quay q).sb.length
  if s.fieldAt (qkey q 0x138) 8 6 < n then s.setField (qkey q 0x138) 8 6 n else s

end Sys2Proof.Machine
end

