-- ==== Sys2Proof/Machine/Issue.lean ====
section
/-! DEFINITION. Issue: fetch, the issue checks, the conditions of R162, allocation and release of scoreboard entries,
and the moments at which a unit of a quay is idle (spec/07_quay_execution.md). -/

namespace Sys2Proof.Machine

/-- Address of logbook byte i of quay q. -/
def logAddr (q i : Nat) : Nat := q * 65536 + i

/-- The key of the codeword mark of a logbook half-word. -/
def logEccKey (q i : Nat) : Nat := 2 ^ 40 + logAddr q i

/-- Instruction i of quay q's logbook (R134). -/
def State.logWord (s : State) (q i : Nat) : W128 :=
  BitVec.ofNat 128 (leNat (s.stack.logbook.read (logAddr q (16 * i)) 16))

/-- LOG_LEN of quay q (R173). -/
def State.logLen (s : State) (q : Nat) : Nat := s.fieldAt (qkey q 8) 0 13

/-- Marked half-words of instruction i (R171). -/
def State.logMarks (s : State) (q i : Nat) : List EccMark :=
  (marksIn s.stack.ecc (logEccKey q (16 * i)) 16).map (·.2)

/-- An issue fault at the program counter, unless nothing was raised. -/
def State.raise (s : State) (q : Nat) (r : Option Raised) : State :=
  match r with
  | some (c, i) => s.issueFault q c i
  | none => s

/-- Fetch and steps 1 to 4 of R138 for the instruction at the program counter, in the first qclk in which no hold is in
force (R162): the state, and the adjusted word where the checks pass. A word that belongs to another row of the command
table leaves the state as it is (entry 5). PC_BOUNDS, LOG_UE and ILLEGAL_OP may arise in any row. -/
def State.fetch (s : State) (q : Nat) (row : Op → W128 → Bool) : State × Option (Op × W128) :=
  let x := s.quay q
  if !s.enabled q || x.st != .run || x.hold != .none then (s, none)
  else
    let pc := x.pc.toNat
    if 4096 ≤ pc || s.logLen q ≤ pc then (s.issueFault q 0x13 (pc % 4096), none)
    else
      let marks := s.logMarks q pc
      if marks.contains .uncorrectable then (s.issueFault q 0x16 pc, none)
      else
        let w := s.logWord q pc
        let seen := if x.stall = .none && !marks.isEmpty then s.logCorrected q else s
        match opOfCode (wf w 0 8) with
        | none => (seen.issueFault q 0x11 (wf w 0 8), none)
        | some op =>
          if !row op w then (s, none)
          else
            let s := seen
            match step2 op w with
            | some b => (s.issueFault q 0x12 b, none)
            | none =>
              match adjustWord s q op w with
              | (_, some b) => (s.issueFault q 0x12 b, none)
              | (w', none) =>
                match step4 s q op w' with
                | some b => (s.issueFault q 0x12 b, none)
                | none => (s, some (op, w'))

/-- The instruction at the program counter has issued: ISSUED, PC + 1, the next serial (R159, R163). -/
def State.issued (s : State) (q : Nat) : State :=
  let s := s.issueCount q 0 1
  let x := s.quay q
  s.setQuay q { x with pc := x.pc + 1, hold := .none, stall := .none, confHeld := 0, nextId := x.nextId + 1, patched := [] }

/-- The instruction stays at the issue point, held by one of conditions 2 to 4 (R162, R170). -/
def State.stalled (s : State) (q : Nat) (w : Stall) : State :=
  let x := s.quay q
  s.setQuay q { x with stall := w, confHeld := if w = .conf || w = .full then x.confHeld else 0 }

/-- Issue holds at the instruction, which counts as not yet issued (R177). -/
def State.holdAt (s : State) (q : Nat) (h : Hold) : State :=
  let x := s.quay q
  s.setQuay q { x with hold := h, stall := .none, confHeld := 0 }

/-- The token byte of quay q in the set of the current phase (R333, R334). -/
def State.token (s : State) (q : Nat) : Option Nat :=
  if !s.chartRuns then none
  else match s.tide.chart with
    | none => none
    | some c =>
      let j := s.fieldAt (kChart 0x44) 8 6
      some ((((c.tokens.drop j).headD []).drop q).headD 0).toNat

/-- The current phase (R188). -/
def State.curPhase (s : State) : Nat := s.fieldAt (kChart 0x44) 0 6

/-- Cranes of a quay that hold an instruction, together with an instruction's own crane set (R334). -/
def Quay.cranesWith (x : Quay) (own : List Nat) : Nat :=
  ([0, 1, 2, 3].filter (fun c => own.contains c || x.cranes.any (fun j => j.cranes.contains c))).length

/-- BUDGET_OVR of R334: unit kind 0 cranes (with the count that `Quay.cranesWith` gives), 1 VE, 2 gantry g. -/
def State.budget (s : State) (q kind n : Nat) : Option Raised :=
  match s.token q with
  | none => none
  | some t =>
    let ok :=
      if kind = 0 then n ≤ fld t 0 3
      else if kind = 1 then fld t 3 1 = 1
      else n < fld t 4 2
    if ok then none else some (0x9B, s.curPhase + 256 * kind)

/-- Gantry queue g of a quay. -/
def Quay.gant (x : Quay) (g : Nat) : List GantJob := if g = 0 then x.gant0 else x.gant1
/-- MOVs of gantry g that are past their last source read. -/
def Quay.moving (x : Quay) (g : Nat) : List GantJob := if g = 0 then x.moving0 else x.moving1
/-- Gantry queue g replaced. -/
def Quay.setGant (x : Quay) (g : Nat) (l : List GantJob) : Quay :=
  if g = 0 then { x with gant0 := l } else { x with gant1 := l }
/-- The MOVs still writing replaced. -/
def Quay.setMoving (x : Quay) (g : Nat) (l : List GantJob) : Quay :=
  if g = 0 then { x with moving0 := l } else { x with moving1 := l }
/-- Outstanding packets of gantry g. -/
def Quay.outs (x : Quay) (g : Nat) : List OutPkt := if g = 0 then x.out0 else x.out1
/-- Outstanding packets replaced. -/
def Quay.setOuts (x : Quay) (g : Nat) (l : List OutPkt) : Quay :=
  if g = 0 then { x with out0 := l } else { x with out1 := l }
/-- Serial number of gantry g (R253). -/
def Quay.serial (x : Quay) (g : Nat) : BitVec 31 := if g = 0 then x.serial0 else x.serial1
/-- Serial number replaced. -/
def Quay.setSerial (x : Quay) (g : Nat) (v : BitVec 31) : Quay :=
  if g = 0 then { x with serial0 := v } else { x with serial1 := v }
/-- Failure records of gantry g (R255). -/
def Quay.recs (x : Quay) (g : Nat) : List SendRec := if g = 0 then x.recs0 else x.recs1
/-- Failure records replaced. -/
def Quay.setRecs (x : Quay) (g : Nat) (l : List SendRec) : Quay :=
  if g = 0 then { x with recs0 := l } else { x with recs1 := l }

/-- Every earlier instruction of the units of a FENCE mask has completed (R157). -/
def Quay.fenceDone (x : Quay) (m : BitVec 5) : Bool :=
  (!m.getLsbD 0 || x.cranes.isEmpty) &&
  (!m.getLsbD 1 || (x.ve.isNone && x.veWait.isNone)) &&
  (!m.getLsbD 2 || (!(x.gant0.any (·.isMov)) && x.moving0.isEmpty)) &&
  (!m.getLsbD 3 || (!(x.gant1.any (·.isMov)) && x.moving1.isEmpty)) &&
  (!m.getLsbD 4 || (x.sends.isEmpty && !((x.gant0 ++ x.gant1).any (fun j => !j.isMov && !j.started))))

/-- Every unit of the quay is idle: every issued instruction has completed (R179). -/
def Quay.idleUnits (x : Quay) : Bool :=
  x.fenceDone 0b11111 && x.gant0.isEmpty && x.gant1.isEmpty

/-- Conditions 2 to 4 of R162, then what the issue qclk itself raises (WB_EMPTY, BUDGET_OVR): the state, and whether the
instruction issues. Its regions are then live entries and its serial is the quay's (R169). -/
def State.tryIssue (s : State) (q : Nat) (u : Unit') (sb : Bool) (rs : List Region) (accepts : Bool)
    (late : Option Raised) : State × Bool :=
  let x := s.quay q
  if anyConflict x u sb rs then (s.stalled q .conf, false)
  else if 32 < x.sb.length + rs.length then (s.stalled q .full, false)
  else if !accepts then (s.stalled q .unit, false)
  else match late with
    | some r => (s.raise q (some r), false)
    | none =>
      let es := rs.map (fun r => { region := r, unit := u, index := x.pc.toNat, id := x.nextId : SbEntry })
      let s := s.setQuay q { x with sb := x.sb ++ es }
      ((s.sbMax q).issued q, true)

/-- The entries of an instruction are released (R169). -/
def Quay.release (x : Quay) (id : Nat) : Quay := { x with sb := x.sb.filter (fun e => e.id != id) }

/-- The entries of an instruction that a predicate names are released (R169). -/
def Quay.releaseIf (x : Quay) (id : Nat) (p : Region → Bool) : Quay :=
  { x with sb := x.sb.filter (fun e => !(e.id = id && p e.region)) }

/-- Weight-buffer slot state: 4 × half + slot (R56). -/
def Quay.slot (x : Quay) (h i : Nat) : SlotState := tabGet x.slots (4 * h + i) .empty
/-- A weight-buffer slot's state replaced. -/
def Quay.setSlot (x : Quay) (h i : Nat) (v : SlotState) : Quay :=
  { x with slots := tabPut x.slots (4 * h + i) v .empty }

/-- Accumulator element of crane c, row m, column n (R68). -/
def Quay.elem (x : Quay) (c m n : Nat) : AccElem := tabGet x.acc ((64 * c + m) * 64 + n) AccElem.init
/-- The 64 elements of a row. -/
def Quay.row (x : Quay) (c m : Nat) : List AccElem := (List.range 64).map (fun n => x.elem c m n)
/-- Row anchor (R68). -/
def Quay.anchor (x : Quay) (c m : Nat) : Int := tabGet x.anchors (64 * c + m) 0

/-- Elements written into a row from a column on. -/
def setElems (t : Tab AccElem) (k : Nat) : List AccElem → Tab AccElem
  | [] => t
  | e :: es => setElems (tabPut t k e AccElem.init) (k + 1) es

/-- A row written. -/
def Quay.setRow (x : Quay) (c m : Nat) (es : List AccElem) : Quay :=
  { x with acc := setElems x.acc ((64 * c + m) * 64) es }
/-- A row anchor written. -/
def Quay.setAnchor (x : Quay) (c m : Nat) (a : Int) : Quay :=
  { x with anchors := tabPut x.anchors (64 * c + m) a 0 }

/-- A byte of the quay's own apron as the state holds it. -/
def State.apron (s : State) (q a n : Nat) : List Byte := s.stack.mem.read (stackAddr q 0 a) n

/-- An FP32 word of the quay's apron. -/
def State.apronW32 (s : State) (q a : Nat) : W32 := w32 (leNat (s.apron q a 4))

end Sys2Proof.Machine
end

