-- ==== Sys2Proof/Machine/Clock.lean ====
section
/-! DEFINITION. The passage of time: tclk ticks, the qclk that fall in them, and what a waiting quay counts in them
(R23, R25, R162, R185, R229). Nothing is released by a count here: the release is a command of its own (entry 1). -/

namespace Sys2Proof.Machine

/-- Ninths of a MHz of the running qclk: its period is lengthened by 1/8 while it is stretched (R338, R342). -/
def State.qclkNinths (s : State) : Nat :=
  s.fieldAt 0x200010 16 16 * (if s.power.stretch then 8 else 9)

/-- The reads of an entry's instruction are over: its region no longer blocks issue (R169). The regions of a VE instruction
are released by the pattern of R466, in `vePass`. -/
def Quay.readDone (x : Quay) (e : SbEntry) : Bool :=
  !e.region.write &&
  match e.unit with
  | .cranes => x.cranes.all (fun j => j.id != e.id || j.waiting.isEmpty)
  | .ve => false
  | .gantry g => (x.gant g).all (fun j => j.id != e.id || j.started)

/-- What k qclk add to the wait of a held quay: the hold's own count, ST_WAIT, ST_CONF, ST_FULL or ST_UNIT. -/
def quayWait (k q : Nat) (s : State) : State :=
  let x := s.quay q
  if x.st != .run || x.gated then s
  else match x.hold with
    | .none =>
      match x.stall with
      | .none => s
      | .conf => (s.issueCount q 3 k).setQuay q { x with confHeld := x.confHeld + k }
      | .full => (s.issueCount q 4 k).setQuay q { x with confHeld := x.confHeld + k }
      | .unit => s.issueCount q 5 k
    | .nop left => (s.issueCount q 1 k).setQuay q { x with hold := .nop (left - k) }
    | .waitc n t tmo e => (s.issueCount q 1 k).setQuay q { x with hold := .waitc n t tmo (e + k) }
    | _ => s.issueCount q 1 k

/-- A compute form waits for a slot that its MOV has not completed (R56, R71). -/
def CraneJob.dry (x : Quay) (j : CraneJob) : Bool :=
  (j.form = .ow || j.form = .ac) && j.waiting.head?.any (fun t => x.slot j.half t.2 != .full)

/-- k qclk of a dry weight buffer are frozen: FRZ_WB and FRZ_ANY (R56, R71, R73). -/
def cranePass (k q : Nat) (s : State) : State :=
  let x := s.quay q
  if x.cranes.any (fun j => j.dry x) then (s.craneCount q 1 k).craneCount q 0 k else s

/-- k qclk pass for a VE instruction that runs: regions past their last access are released, and a VCMP whose scan ends sets
its counter (R150, R169, R466). -/
def vePass (k q : Nat) (s : State) : State :=
  match (s.quay q).ve with
  | some j =>
    if !j.started then s
    else
      let n := j.ran + k
      let free := (j.frees.filter (fun f => decide (f.1 ≤ n))).map (·.2)
      let ended := j.scan.any (fun c => decide (c.1 ≤ n))
      let s := match j.scan with
        | some (_, c, v) => if ended then s.setReg (kCnt q c) v else s
        | none => s
      let x := s.quay q
      s.setQuay q { x.releaseIf j.id (fun g => free.contains g) with
        ve := some { j with ran := n, scan := if ended then none else j.scan } }
  | none => s

/-- k qclk pass for a quay: its waits, its dry cranes and its VE count them, entries whose reads are over are released, and
the qclk of a boundary is over (R152). -/
def quayPass (k : Nat) (s : State) (q : Nat) : State :=
  let s := vePass k q (cranePass k q (quayWait k q s))
  let x := s.quay q
  s.setQuay q { x with sb := x.sb.filter (fun e => !x.readDone e), patched := if k = 0 then x.patched else [] }

/-- The slew made while TB_NOW goes from a to b: at most 1/16 ns in each 256 ns (R232). -/
def slewIn (slew : Int) (a b : Nat) : Int :=
  let most : Int := (b / 256 - a / 256 : Nat)
  max (-most) (min most slew)

/-- TB_NOW takes another value; the aclk edges stay where they are (R230, R232). -/
def State.moveNow (s : State) (v : W64) : State :=
  { s.setCnt64 kTbNow v with time := { s.time with aclk := (s.time.aclk + v.toNat + 10 - s.now.toNat % 10) % 10 } }

/-- The aclk that holds this tclk began at this TB_NOW (R460). -/
def State.aclkStart (s : State) : W64 := s.now - w64 ((s.now.toNat + 10 - s.time.aclk % 10) % 10)
/-- The next aclk edge from this tclk on (R460). -/
def State.aclkNext (s : State) : W64 := s.now + w64 ((s.time.aclk % 10 + 10 - s.now.toNat % 10) % 10)

/-- The always-on shadow carries TB_NOW: in S2 and S3, up to the end of the exit (R328). -/
def State.shadowed (s : State) : Bool :=
  let deep := fun (st : PwrState) => st = .s2 || st = .s3
  deep s.power.st || (s.power.st = .exiting && deep s.power.from')

/-- TB_NOW after n tclk, with the load of a sampled sync-in edge where it falls among them (R230); the shadow advances by 10 in
each aclk (R328). -/
def State.nowAfter (s : State) (n : Nat) : Nat :=
  let now := s.now.toNat
  if s.shadowed then now + 10 * ((s.time.shadow + n) / 10)
  else match s.time.loadAt with
  | some t => if now ≤ t.toNat && t.toNat ≤ now + n then (s.pair 0x1C00010).toNat + (now + n - t.toNat) else now + n
  | none => now + n

/-- n tclk pass (R229). -/
def State.pass (s : State) (n : Nat) : State :=
  let t := s.time
  let total := t.frac + n * s.qclkNinths
  let k := total / 9000
  let now := s.now.toNat
  let d := slewIn t.slew now (now + n)
  let loaded := t.loadAt.any (fun l => decide (now ≤ l.toNat) && decide (l.toNat ≤ now + n))
  let s' := (s.setCnt64 kTbNow (w64 (now + n))).moveNow (w64 (s.nowAfter n))
  let s' := { s' with time :=
    { s'.time with phase := t.phase + d, slew := t.slew - d, frac := total % 9000, qclk := t.qclk + k,
                   loadAt := if loaded then none else t.loadAt,
                   shadow := if s.shadowed then (t.shadow + n) % 10 else t.shadow } }
  (s'.quays.map (·.1)).foldl (quayPass k) s'

/-- Time passes to a stored moment, if it lies ahead (entry 1); under the shadow to the first aclk at which TB_NOW has reached
it (R328). -/
def State.passTo (s : State) (at' : W64) : State :=
  let n := at'.toNat - s.now.toNat
  if n = 0 then s else s.pass (if s.shadowed then 10 * ((n + 9) / 10) - s.time.shadow else n)

end Sys2Proof.Machine
end

