-- ==== Sys2Proof/Machine/Sequencer.lean ====
section
/-! DEFINITION. The sequencer's instructions and waits (R153 to R158), quay commands (R182, R183), logbook registers
(R172, R173) and parameter writes (R174). An event command whose condition the state does not meet changes nothing
(entry 5). -/

namespace Sys2Proof.Machine

/-- A command's effect as an outcome. -/
abbrev Res := Host.Outcome State Fault Refusal

/-- A sequencer instruction after its checks. -/
def seqIssue (q : Nat) (row : Op → W128 → Bool) (f : W128 → State → State) (s : State) : State :=
  match s.fetch q row with
  | (s, none) => s
  | (s, some (_, w)) => f w s

/-- NOP (R158): CYCLES 0 passes, else issue holds for CYCLES qclk. -/
def execNop (q : Nat) (s : State) : Res :=
  .next (seqIssue q (fun op _ => op = .nop)
    (fun w s => if wf w 24 16 = 0 then s.issued q else s.holdAt q (.nop (wf w 24 16))) s)

/-- The CYCLES of a NOP have run out (R158). -/
def execNopHoldEnd (q : Nat) (s : State) : Res :=
  .next (match (s.quay q).hold with
    | .nop 0 => s.issued q
    | _ => s)

/-- A HALT whose wait has ended: DRAINING toward HALTED with CODE reported (R158, R179, R185). -/
def haltNow (q : Nat) (s : State) : State :=
  let x := s.quay q
  let code := wf (s.logWord q x.pc.toNat) 24 16
  let pc := x.pc
  let s := s.issueCount q 0 1
  let x := s.quay q
  s.setQuay q
    { x with st := .draining, drainTo := .halted, hcode := BitVec.ofNat 16 code, pc := pc, hold := .none,
             stall := .none, confHeld := 0, nextId := x.nextId + 1, patched := [] }

/-- HALT (R158): waits as a full FENCE, then stops the quay. -/
def execHalt (q : Nat) (s : State) : Res :=
  .next (seqIssue q (fun op _ => op = .halt)
    (fun _ s => if (s.quay q).fenceDone 0b11111 then haltNow q s else s.holdAt q .halt) s)

/-- WTIDE (R156): NEXT holds; PHASE and OFFSET pass where they are met already. -/
def execWtide (q : Nat) (s : State) : Res :=
  .next (seqIssue q (fun op _ => op = .wtide)
    (fun w s =>
      if wf w 24 2 = 0 then s.holdAt q .tideNext
      else if wf w 24 2 = 1 then
        if s.curPhase = wf w 26 6 then s.issued q else s.holdAt q (.tidePhase (wf w 26 6))
      else if wf w 32 20 ≤ s.time.qclk then s.issued q else s.holdAt q (.tideOffset (wf w 32 20))) s)

/-- The qclk count since the boundary reaches the OFFSET of a waiting WTIDE (R156). -/
def execWtideOffsetReached (q : Nat) (s : State) : Res :=
  .next (match (s.quay q).hold with
    | .tideOffset ofs => if ofs ≤ s.time.qclk then s.issued q else s
    | _ => s)

/-- CNTn − TARGET, read as signed, is 0 or more (R155). -/
def counted (s : State) (q n : Nat) (target : W32) : Bool :=
  decide (0 ≤ (s.reg (kCnt q n) - target).toInt)

/-- WAITC (R155). -/
def execWaitc (q : Nat) (s : State) : Res :=
  .next (seqIssue q (fun op _ => op = .waitc)
    (fun w s =>
      let n := wf w 24 4
      let t := w32 (wf w 32 32)
      if counted s q n t then s.issued q else s.holdAt q (.waitc n t (wf w 64 20) 0)) s)

/-- A waiting WAITC's counter has reached its target (R155). -/
def execWaitcRelease (q : Nat) (s : State) : Res :=
  .next (match (s.quay q).hold with
    | .waitc n t _ _ => if counted s q n t then s.issued q else s
    | _ => s)

/-- TMO qclk have passed before a WAITC was satisfied: WAIT_TMO (R155). A count that is there releases it instead. -/
def execWaitTmo (q : Nat) (s : State) : Res :=
  .next (match (s.quay q).hold with
    | .waitc n t tmo elapsed =>
      if tmo = 0 || elapsed < tmo then s else if counted s q n t then s.issued q else s.issueFault q 0x14 n
    | _ => s)

/-- FENCE (R157). -/
def execFence (q : Nat) (s : State) : Res :=
  .next (seqIssue q (fun op _ => op = .fence)
    (fun w s =>
      let m := BitVec.ofNat 5 (wf w 24 5)
      if (s.quay q).fenceDone m then s.issued q else s.holdAt q (.fence m)) s)

/-- The last instruction that a waiting FENCE or HALT awaits has completed (R157, R158). -/
def execFenceRelease (q : Nat) (s : State) : Res :=
  .next (match (s.quay q).hold with
    | .fence m => if (s.quay q).fenceDone m then s.issued q else s
    | .halt => if (s.quay q).fenceDone 0b11111 then haltNow q s else s
    | _ => s)

/-- An instruction writes PARAMi: one that a patch of the same qclk names keeps the patch (R152). -/
def State.setParam (s : State) (q i : Nat) (v : W32) : State :=
  if (s.quay q).patched.contains i then s else s.setReg (kParam q i) v

/-- PSET (R153). -/
def execPset (q : Nat) (s : State) : Res :=
  .next (seqIssue q (fun op _ => op = .pset)
    (fun w s => (s.setParam q (wf w 24 6) (w32 (wf w 32 32))).issued q) s)

/-- PADD (R153). -/
def execPadd (q : Nat) (s : State) : Res :=
  .next (seqIssue q (fun op _ => op = .padd)
    (fun w s => (s.setParam q (wf w 24 6) (s.reg (kParam q (wf w 30 6)) + w32 (wf w 64 32))).issued q) s)

/-- The CNT rows: SUB names the row, and a reserved SUB is met in any of them (R153). -/
def cntRow (sub : Nat) (op : Op) (w : W128) : Bool := op = .cnt && (wf w 28 3 = sub || 5 ≤ wf w 28 3)

/-- CNT SET (R152, R153). -/
def execCntSet (q : Nat) (s : State) : Res :=
  .next (seqIssue q (cntRow 0) (fun w s => (s.setReg (kCnt q (wf w 24 4)) (w32 (wf w 64 32))).issued q) s)

/-- CNT ADD. -/
def execCntAdd (q : Nat) (s : State) : Res :=
  .next (seqIssue q (cntRow 1)
    (fun w s => (s.setReg (kCnt q (wf w 24 4)) (s.reg (kCnt q (wf w 24 4)) + w32 (wf w 64 32))).issued q) s)

/-- CNT CLR: the counter and its fail tally. -/
def execCntClr (q : Nat) (s : State) : Res :=
  .next (seqIssue q (cntRow 2)
    (fun w s => ((s.setReg (kCnt q (wf w 24 4)) 0).setReg (kFail q (wf w 24 4)) 0).issued q) s)

/-- CNT GETC. -/
def execCntGetc (q : Nat) (s : State) : Res :=
  .next (seqIssue q (cntRow 3)
    (fun w s => (s.setParam q (wf w 32 6) (s.reg (kCnt q (wf w 24 4)))).issued q) s)

/-- CNT GETF. -/
def execCntGetf (q : Nat) (s : State) : Res :=
  .next (seqIssue q (cntRow 4)
    (fun w s => (s.setParam q (wf w 32 6) (w32 (s.fieldAt (kFail q (wf w 24 4)) 0 16))).issued q) s)

/-- Operand A of CMPB (R154). -/
def cmpbA (s : State) (q : Nat) (w : W128) : W32 :=
  let src := wf w 30 3
  let i := wf w 33 6
  if src = 0 then s.reg (kParam q i)
  else if src = 1 then s.reg (kCnt q i)
  else if src = 2 then w32 (s.fieldAt (kFail q i) 0 16)
  else if src = 3 then w32 s.curPhase
  else if src = 4 then w32 (min s.time.qclk 0xFFFFFFFF)
  else lo32 s.tideIdx

/-- The predicates of CMPB (R154). -/
def cmpbTest (p : Nat) (a b : W32) : Bool :=
  if p = 0 then a = b
  else if p = 1 then a ≠ b
  else if p = 2 then a.toInt < b.toInt
  else if p = 3 then b.toInt ≤ a.toInt
  else if p = 4 then a.toNat < b.toNat
  else b.toNat ≤ a.toNat

/-- CMPB (R154): the comparator is written before the branch test; a taken branch leaves a bubble of 2 qclk (entry 12). -/
def execCmpb (q : Nat) (s : State) : Res :=
  .next (seqIssue q (fun op _ => op = .cmpb)
    (fun w s =>
      let k := wf w 24 3
      let b := if wf w 39 1 = 1 then s.reg (kParam q (wf w 40 6)) else w32 (wf w 64 32)
      let old := s.fieldAt (qkey q 0x580) k 1 = 1
      let c := if wf w 27 3 = 6 then decide old else cmpbTest (wf w 27 3) (cmpbA s q w) b
      let s := (s.setField (qkey q 0x580) k 1 (bit c)).issued q
      let br := wf w 46 2
      if br = 3 || (br = 1 && c) || (br = 2 && !c) then
        let s := s.issueCount q 2 2
        let x := s.quay q
        s.setQuay q { x with pc := BitVec.ofNat 13 (wf w 48 12) }
      else s) s)

/-- SB_OVF (R170): an instruction held by conditions 2 and 3 for SB_LIMIT × 16 qclk. -/
def execSbOvf (q : Nat) (s : State) : Res :=
  .next (let x := s.quay q
    if s.enabled q && x.st = .run && (x.stall = .conf || x.stall = .full) && s.fieldAt (qkey q 0x13C) 0 16 != 0 then
      s.issueFault q 0x15 x.sb.length
    else s)

/-! ### Quay commands -/

/-- Issue ends by a STOP: the quay drains, PC on the first instruction not issued (R179). -/
def stopQuay (q : Nat) (s : State) : State :=
  let x := s.quay q
  s.setQuay q { x with st := .draining, drainTo := .stopped, hold := .none, stall := .none, confHeld := 0 }

/-- QCMD STOP: accepted in RUN (R182). -/
def cmdStop (q : Nat) (s : State) : State :=
  if s.enabled q && (s.quay q).st = .run then stopQuay q s else s.qcmdRej q

/-- QCMD STOP (R182). -/
def execQcmdStop (q : Nat) (s : State) : Res := .next (cmdStop q s)

/-- The quay enters RUN at a program counter, PT takes the tide index, and the fault record's flags clear (R182, R189). -/
def enterRun (q : Nat) (pc : BitVec 13) (atTide : Bool) (s : State) : State :=
  let s := s.setQreg q 0x20 (s.qreg q 0x20 &&& 0xFFFFFFF8)
  let x := s.quay q
  s.setQuay q
    { x with st := .run, pc := pc, hold := if atTide then .atTide else .none, stall := .none, confHeld := 0,
             pt := s.tideIdx, sb := [], latch := none, patched := [] }

/-- QCMD RESUME: accepted in HALTED, STOPPED, and FAULTED with a precise fault, while a chart runs (R182). -/
def cmdResume (q : Nat) (atTide : Bool) (s : State) : State :=
  let x := s.quay q
  if s.enabled q && s.chartRuns &&
      (x.st = .halted || x.st = .stopped || (x.st = .faulted && s.fieldAt (qkey q 0x20) 2 1 = 1)) then
    enterRun q (if x.st = .halted then x.pc + 1 else x.pc) atTide s
  else s.qcmdRej q

/-- QCMD RESUME (R182). -/
def execQcmdResume (q : Nat) (atTide : Bool) (s : State) : Res := .next (cmdResume q atTide s)

/-- LOG_START of quay q. -/
def State.logStart (s : State) (q : Nat) : BitVec 13 := BitVec.ofNat 13 (s.fieldAt (qkey q 0xC) 0 12)

/-- QCMD RESTART: accepted in a stopped state with a program, while a chart runs (R182). -/
def cmdRestart (q : Nat) (atTide : Bool) (s : State) : State :=
  if s.enabled q && s.chartRuns && (s.quay q).st.isStopped && s.logLen q != 0 then enterRun q (s.logStart q) atTide s
  else s.qcmdRej q

/-- QCMD RESTART (R182). -/
def execQcmdRestart (q : Nat) (atTide : Bool) (s : State) : Res := .next (cmdRestart q atTide s)

/-- The pending batch of a quay is gone (R183). -/
def dropBatch (q : Nat) (s : State) : State :=
  let x := s.quay q
  ({ s with staged := tabClear s.staged (qkey q 0) 0x10000 }).setQuay q { x with armed := none }

/-- The clears of R183 that RESET and a change of tenant share: R151, R69, LUT_TAG, the weight buffer marked empty, the
pending batch, PATCH_CTRL.MODE, the fault record and the issue counters (R185). -/
def resetClears (q : Nat) (s : State) : State :=
  let s := dropBatch q s
  let s := { s with regs := tabClear s.regs (kParam q 0) 0x184 }
  let s := s.setQreg q 0x204 0
  let s := s.setField (qkey q 0x30) 0 2 0
  let s := ((s.setQreg q 0x20 0).setQreg q 0x24 0).setCnt64 (qkey q 0x28) 0
  let s := (s.clear64 (qkey q 0x100) 0x30).setQreg q 0x138 0
  let s := s.setField (qkey q 0x10) 16 16 0
  let x := s.quay q
  s.setQuay q { x with acc := [], anchors := [], slots := [], lut := [], sb := [], hold := .none, stall := .none, confHeld := 0 }

/-! ### Tenant scrub (R110, R384) -/

/-- The clears of a change of tenant besides those that RESET shares: the crane and VE counters and the flags (R73, R103,
R384). -/
def tenantClears (q : Nat) (s : State) : State :=
  let s := resetClears q s
  let s := (s.clear64 (qkey q 0x1A0) 0x30).clear64 (qkey q 0x208) 0x10
  let x := s.quay q
  s.setQuay q { x with wb := [] }

/-- The scrub of a quay ends: apron, logbook and weight buffer read 0, LOG_LEN is 0, and the quay is IDLE (R110, R384). -/
def scrubEnd (q : Nat) (s : State) : State :=
  if (s.quay q).st != .scrub then s
  else
    let s := tenantClears q s
    let s := s.zeroStack (stackAddr q 0 0) 0x60000
    let s := { s with stack := { s.stack with
      logbook := s.stack.logbook.clear (logAddr q 0) 65536,
      ecc := tabClear s.stack.ecc (logEccKey q 0) 65536 } }
    let s := s.setQreg q 8 0
    let x := s.quay q
    s.setQuay q { x with st := .idle }

/-- A request of another quay, of BAR2 or of host DMA for an apron in SCRUB waits until the scrub has ended: it is served then
(R110, entry 107). -/
def awaitScrub (a : Nat) (s : State) : State := if saSpace a = 0 then scrubEnd (saQuay a) s else s

/-! ### RESET -/

/-- QCMD RESET: accepted in a stopped state (R182, R183). -/
def cmdReset (q : Nat) (s : State) : State :=
  if s.enabled q && (s.quay q).st.isStopped then
    let s := resetClears q s
    let x := s.quay q
    s.setQuay q { x with st := .reset }
  else s.qcmdRej q

/-- QCMD RESET (R182, R183). -/
def execQcmdReset (q : Nat) (s : State) : Res := .next (cmdReset q s)

/-- A quay in RESET has finished its clears: IDLE (R183). -/
def execQuayResetDone (q : Nat) (s : State) : Res :=
  .next (let x := s.quay q
    if x.st = .reset then s.setQuay q { x with st := .idle } else s)

/-- The state a draining quay enters, with its notification and trace record (R179, R425, R445). -/
def drained (q : Nat) (s : State) : State :=
  let x := s.quay q
  let st := match x.drainTo with
    | .halted => QState.halted
    | .faulted => .faulted
    | .stopped => .stopped
  let s := s.setQuay q { x with st := st, sb := [] }
  if st = .stopped then s
  else
    let pay := [s.qreg q 0x20, s.qreg q 0x24, w32 x.pc.toNat, 0]
    (s.trace 0 (if st = .faulted then s.fieldAt (qkey q 0x20) 8 8 else 0) q pay).note q

/-- The last unit of a draining quay is idle (R179). -/
def execQuayDrainDone (q : Nat) (s : State) : Res :=
  .next (if (s.quay q).st = .draining && (s.quay q).idleUnits then drained q s else s)

/-! ### Register writes of the quay block with a row of their own -/

/-- BLOCK_MODE puts a group in MASK mode (R419). -/
def State.maskMode (s : State) (group : Nat) : Bool := s.fieldAt 0x400 group 1 = 1

/-- The value and the written bits of a plain write of d to a register, by the write form of its group (R420, R421): in
MASK mode [31:16] select bits of [15:0]; a whole-word register takes all 32 bits. -/
def writeForm (mask wholeWord : Bool) (d : W32) : W32 × W32 :=
  if mask && !wholeWord then (d &&& 0xFFFF, d >>> 16) else (d, 0xFFFFFFFF)

/-- The new value of a register: written bits from the value, the others kept. -/
def mergeBits (old : W32) (f : W32 × W32) : W32 := (old &&& ~~~f.2) ||| (f.1 &&& f.2)

/-- A write reaches a field. -/
def touches (f : W32 × W32) (lo w : Nat) : Bool := getBits f.2 lo w != 0

/-- A WO command bit is written 1 (R421). -/
def cmdBit (f : W32 × W32) (b : Nat) : Bool := getBits (f.1 &&& f.2) b 1 = 1

/-- LOG_LEN (R172, R173): stored only while the quay is stopped; 4,097 to 8,191 are reserved encodings. -/
def logLenStore (rq : Req) (q : Nat) (f : W32 × W32) (addr : Nat) (s : State) : State :=
  if !(s.enabled q && (s.quay q).st.isStopped) then s.logRefused q
  else
    let v := getBits (mergeBits (s.qreg q 8) f) 0 13
    if 4096 < v then s.regRsvd rq addr else s.setQreg q 8 (w32 v)

/-- LOG_START (R172, R173). -/
def logStartStore (q : Nat) (f : W32 × W32) (s : State) : State :=
  if !(s.enabled q && (s.quay q).st.isStopped) then s.logRefused q
  else s.setQreg q 0xC (w32 (getBits (mergeBits (s.qreg q 0xC) f) 0 12))

/-- BAR0 address of a register of quay n (R11). -/
def quayAddr (n ofs : Nat) : Nat := 0x800000 + n * 0x10000 + ofs

/-- A write of QCMD: CMD with AT_TIDE; 5 to 7 are reserved encodings (R182, R185). -/
def qcmdStore (rq : Req) (q : Nat) (f : W32 × W32) (s : State) : State :=
  let v := f.1 &&& f.2
  let at' := getBits v 3 1 = 1
  match getBits v 0 3 with
  | 0 => s
  | 1 => cmdStop q s
  | 2 => cmdResume q at' s
  | 3 => cmdRestart q at' s
  | 4 => cmdReset q s
  | _ => s.regRsvd rq (quayAddr q 4)

/-- A write of LOG_LEN. -/
def execLogLenWrite (rq : Req) (q : Nat) (data : W32) (s : State) : Res :=
  .next (logLenStore rq q (writeForm (s.maskMode 5) false data) (quayAddr q 8) s)

/-- A write of LOG_START. -/
def execLogStartWrite (_rq : Req) (q : Nat) (data : W32) (s : State) : Res :=
  .next (logStartStore q (writeForm (s.maskMode 5) false data) s)

/-- What the writes that wait for PARAMi make of its value: a whole write gives it, and one to PARAMi_H gives [31:16] (R160). -/
def applyWrites (t : Tab W32) (k : Nat) (old : W32) : W32 :=
  let v := (tabFind t k).getD old
  match tabFind t (k + 0x800) with
  | some h => (v &&& 0xFFFF) ||| (h <<< 16)
  | none => v

/-- The pending value of a staged register, or its current value (R422). -/
def State.pendingOf (s : State) (q k : Nat) : W32 :=
  applyWrites s.staged k (applyWrites (((s.quay q).armed.map (·.1)).getD []) k (s.reg k))

/-- One write that waited takes effect (R160, R174): its key is that of PARAMi or of PARAMi_H. -/
def storeWaiting (s : State) (v : Nat × W32) : State :=
  if 0xC00 ≤ v.1 % 0x10000 then s.setReg (v.1 - 0x800) ((s.reg (v.1 - 0x800) &&& 0xFFFF) ||| (v.2 <<< 16)) else s.setReg v.1 v.2

/-- A write waits for a tide boundary; while no chart runs it applies at once (R174, R422). A chart that is stopping or
switching still counts, so that no earlier write that waits takes the place of a later one. -/
def paramStage (k : Nat) (v : W32) (s : State) : State :=
  if s.chartState = 4 || s.chartState = 5 then { s with staged := tabSet s.staged k v } else storeWaiting s (k, v)

/-- A write of PARAMi, or of PARAMi_H with `upper`, by the write form of the quay group (R160, R174, R421): computed on the
pending value (R422). -/
def paramStore (q i : Nat) (upper : Bool) (f : W32 × W32) (s : State) : State :=
  let old := s.pendingOf q (kParam q i)
  if upper then
    if f.2 &&& 0xFFFF = 0 then s
    else paramStage (kParam q i + 0x800) (mergeBits (old >>> 16) (f.1 &&& 0xFFFF, f.2 &&& 0xFFFF)) s
  else if f.2 = 0 then s
  else paramStage (kParam q i) (mergeBits old f) s

/-- A write of PARAMi or PARAMi_H. -/
def execParamWrite (_rq : Req) (q i : Nat) (upper : Bool) (data : W32) (s : State) : Res :=
  .next (paramStore q (i % 64) upper (writeForm (s.maskMode 5) false data) s)

/-- The batch of one quay is fixed: its pending values leave the staging, and MODE and PATCH_AT are sampled (R174). -/
def armQuay (q : Nat) (s : State) : State :=
  let mine := s.staged.filter (fun p => decide (qkey q 0 ≤ p.1) && decide (p.1 < qkey q 0 + 0x10000))
  let s := { s with staged := tabClear s.staged (qkey q 0) 0x10000 }
  let x := s.quay q
  s.setQuay q
    { x with armed := some (mine, BitVec.ofNat 2 (s.fieldAt (qkey q 0x30) 0 2), BitVec.ofNat 16 (s.fieldAt (qkey q 0x34) 0 16)),
             gated := false }

/-- Every record of a gantry is discarded (R265). -/
def dropRecs (q g : Nat) (s : State) : State :=
  let s := s.setQuay q ((s.quay q).setRecs g [])
  s.setField (qkey q 0x600) (4 * g) 3 0

/-- SEND_REC.DROP0 (R265). -/
def execSendRecDrop0 (q : Nat) (s : State) : Res := .next (dropRecs q 0 s)
/-- SEND_REC.DROP1 (R265). -/
def execSendRecDrop1 (q : Nat) (s : State) : Res := .next (dropRecs q 1 s)

/-- CRANE_CNT_CTRL.CLR (R73). -/
def execCraneCntClr (q : Nat) (s : State) : Res := .next (s.clear64 (qkey q 0x1A0) 0x30)
/-- VE_CNT_CTRL.CLR (R103). -/
def execVeCntClr (q : Nat) (s : State) : Res := .next (s.clear64 (qkey q 0x208) 0x10)

/-- The six issue counters to 0, SB_MAX to the entries in use (R185). -/
def issClear (q : Nat) (s : State) : State :=
  (s.clear64 (qkey q 0x100) 0x30).setField (qkey q 0x138) 8 6 (s.quay q).sb.length

/-- ISS_CNT_CTRL.CLR (R185). -/
def execIssCntClr (q : Nat) (s : State) : Res := .next (issClear q s)

end Sys2Proof.Machine
end

