-- ==== Sys2Proof/Machine/SiloOps.lean ====
section
/-! DEFINITION. The silo as its users see it: slots, extents, the bytes of a range, its log and its write counters
(R367 to R382). The counters HOST_WR, INT_WR and NAND_WR are kept in bytes; their registers show MiB. -/

namespace Sys2Proof.Machine

/-- A register of the silo block. -/
def kSilo (o : Nat) : Nat := 0x1400000 + o

/-- Bytes of an extent. -/
def extentBytes : Nat := 0x4000000
/-- Silo address of the slot space (R369). -/
def slotSpace : Nat := 0x40000000
/-- Extents of the slot space. -/
def extentCount : Nat := 65520

/-- A slot of the directory (R371). -/
def State.slotRec (s : State) (n : Nat) : SiloSlot := tabGet s.silo.slots n SiloSlot.init
/-- A slot of the directory stored. -/
def State.setSlotRec (s : State) (n : Nat) (x : SiloSlot) : State :=
  { s with silo := { s.silo with slots := tabPut s.silo.slots n x SiloSlot.init } }

/-- First silo address of a slot. -/
def SiloSlot.addr (x : SiloSlot) : Nat := slotSpace + x.base * extentBytes
/-- Size of a slot in bytes. -/
def SiloSlot.size (x : SiloSlot) : Nat := x.len * extentBytes

/-- A range of n bytes lies inside a slot. -/
def SiloSlot.covers (x : SiloSlot) (a n : Nat) : Bool := x.st != .empty && x.addr ≤ a && a + n ≤ x.addr + x.size

/-- The slot that holds a range, if one does. -/
def State.slotAt (s : State) (a n : Nat) : Option (Nat × SiloSlot) :=
  s.silo.slots.find? (fun p => p.2.covers a n)

/-- An entry reaches SLOG: lost while the FIFO is full; LAST_CODE shows the code (R382). `slot` 255 is the system
region. -/
def State.slogPush (s : State) (code slot a : Nat) : State :=
  let s := s.setField (kSilo 0) 24 8 code
  if s.siloLog.length < 16 then
    let e : LogEntry := { ts := s.now, w2 := w32 (2 ^ 31 + slot * 256 + code), w3 := w32 (fld a 10 32) }
    (({ s with siloLog := s.siloLog ++ [e] }).trace 7 code 0xFFFF (logWords e)).note 168
  else s

/-- A page of a range reads uncorrectable (R380). -/
def State.badPage (s : State) (a n : Nat) : Bool :=
  s.silo.badPages.any (fun p => decide (p < a + n) && decide (a < p + 4096))

/-- Bytes are programmed: pages that they fill read again, from fresh blocks (R380, entry 32). -/
def State.siloProgram (s : State) (a : Nat) (bs : List Byte) : State :=
  { s with silo := { s.silo with
      mem := s.silo.mem.write a bs,
      badPages := s.silo.badPages.filter (fun p => !(decide (a ≤ p) && decide (p + 4096 ≤ a + bs.length))) } }

/-- The silo takes writes (R380). -/
def State.siloWritable (s : State) : Bool := s.fieldAt (kSilo 0) 8 1 = 0

/-- WEAR first reaches 80 % of 7,500 TB: WEAR_WARN, logged (R377). -/
def wearCheck (s : State) : State :=
  if s.fieldAt (kSilo 0) 6 1 = 0 && 6000000000000000 ≤ (s.cnt64 (kSilo 0x40)).toNat then
    (s.setField (kSilo 0) 6 1 1).slogPush 0xE8 255 0
  else s

/-- Bytes programmed into the NAND for host or internal writes: 0 HOST_WR, 1 INT_WR; both count in NAND_WR with the
controller's own amplification free (R377, entry 3). -/
def State.siloWrote (s : State) (who n : Nat) : State :=
  let f := s.free
  wearCheck ((s.bump (kSilo (0x30 + 8 * who)) n).bump (kSilo 0x40) (n + Config.freeCount f)).useFree

end Sys2Proof.Machine
end

