-- ==== Sys2Proof/Machine/Wake.lean ====
section
/-! DEFINITION. Power-state codes, the wake log and the handling of a wake (R320, R326, R327, R349). -/

namespace Sys2Proof.Machine

/-- A register of the always-on block. -/
def kAon (o : Nat) : Nat := 0x1E00000 + o

/-- PWR_STATE.STATE (R349). -/
def pwrCode : PwrState → Nat
  | .a0 => 0
  | .a1 => 1
  | .s1 => 2
  | .s2 => 3
  | .s3 => 4
  | .entering => 8
  | .exiting => 9
  | .trip => 12

/-- The power state changes, with its trace record (R445). -/
def State.setPwr (s : State) (st : PwrState) : State :=
  if s.power.st = st then s
  else ({ s with power := { s.power with st := st } }).trace 3 0 0xFFFF []

/-- A power code logged by R322 or R330: LAST_ERR as well (R349). -/
def State.pwrError (s : State) (code : Nat) : State := (s.powerCode code).setField (kAon 4) 8 8 code

/-- A PWR_CMD is not accepted: CMD_REJ and PWR_REFUSED (R322). -/
def State.pwrRefuse (s : State) : State := (s.orReg (kAon 4) 0x10).pwrError 0x90

/-- Latch count of a wake source (R326). -/
def State.latchCount (s : State) (src : Nat) : Nat := tabGet s.power.latches src 0

/-- An entry reaches the wake log; at a full FIFO it replaces the newest entry and sets its OVF bit (R349). KIND: 0
ACCEPTED, 1 LATCHED, 2 MERGED, 3 IGNORED. -/
def State.wlogPush (s : State) (src kind : Nat) : State :=
  let ovf := decide (16 ≤ s.wakeLog.length)
  let e : LogEntry :=
    { ts := s.now, w2 := w32 (2 ^ 31 + bit ovf * 2 ^ 30 + kind * 2 ^ 28 + pwrCode s.power.st * 16 + src),
      w3 := w32 (s.latchCount src) }
  (({ s with wakeLog := s.wakeLog.take 15 ++ (if ovf then [] else s.wakeLog.drop 15) ++ [e] }).trace 3 0 0xFFFF
    (logWords e)).note 165

/-- WAKE_CFG enables a source; source 1 is always enabled (R349). -/
def State.wakeEnabled (s : State) (src : Nat) : Bool := src = 1 || s.fieldAt (kAon 8) (6 + src) 1 = 1

/-- The table of R326 allows a source in a state. -/
def wakeAllowed (st : PwrState) (src : Nat) : Bool :=
  match st with
  | .s2 => src != 5
  | .s3 => src != 5 && src != 1
  | _ => true

/-- Exit to A0 begins, with the rails that AVSBus does not control at their operating voltages (R329): LAST_WAKE records the source, the arrival stamp and the state left (R326, R349). -/
def beginExit (src : Nat) (stamp : W64) (replayed : Bool) (s : State) : State :=
  let st := s.power.st
  let s := s.setReg (kAon 0xC) (w32 (src + 128 * bit replayed + 256 * (pwrCode st % 8)))
  let s := (s.setCnt64 (kAon 0x10) stamp).setField (kAon 4) 24 3 0
  let s := { s with power := { s.power with from' := st, target := .a0, groups := 0, latched := none,
                                            rails := s.power.rails.filter (fun p => decide (p.1 < 3)) } }
  s.setPwr .exiting

/-- A wake arrives (R326). -/
def State.wake (s : State) (src : Nat) : State :=
  if !s.wakeEnabled src || !wakeAllowed s.power.st src then s
  else
    let latch := fun (s : State) =>
      { s with power := { s.power with latches := tabSet s.power.latches src (min 255 (s.latchCount src + 1)) } }
    match s.power.st with
    | .s1 | .s2 | .s3 => beginExit src s.now false ((latch s).wlogPush src 0)
    | .entering =>
      let s := ((latch s).wlogPush src 1).powerCode 0x95
      { s with power := { s.power with latched := some (s.power.latched.getD (src, s.now)) } }
    | .exiting => ((latch s).wlogPush src 2).powerCode 0x95
    | _ => s.wlogPush src 3

end Sys2Proof.Machine
end

