-- ==== Sys2Proof/Machine/Breakwater.lean ====
section
/-! DEFINITION. The breakwater: operating points, rails, telemetry, the estimate of power, the cap, learning, droop,
ageing and calibration (R329 to R338, R342 to R348). Power states are in Power.lean. -/

namespace Sys2Proof.Machine

/-- A register of the breakwater and power block. -/
def kBw (o : Nat) : Nat := 0x200000 + o

/-! ### Calibration set and operating points (R344, R345) -/

/-- The typical points of R344, in MHz. -/
def typPoint (p : Nat) : Nat := ([1600, 1520, 1440, 1360, 1280, 1200, 1040, 800].drop p).headD 800

/-- A byte of the factory's set from byte 64 on (R344): the typical qclk and the operating VSRAM of R329, reserved bytes 0, and
what calibration gave the part. -/
def factoryBody (i : Nat) : Byte :=
  let half := fun (v : Nat) => BitVec.ofNat 8 (v / 256 ^ (i % 2))
  if i < 128 && i % 8 < 2 then half (typPoint (i / 8 - 8))
  else if i < 128 && 4 ≤ i % 8 && i % 8 < 6 then half 800
  else if 1280 ≤ i || (760 ≤ i && i < 768) then 0
  else Config.factoryCal i

/-- A byte of the factory's set: MAGIC, the part's VERSION and serial, the CRC of bytes 64 to 4,095, ORIGIN 0 (R344). -/
def State.factoryByte (s : State) (i : Nat) : Byte :=
  if i < 4 then BitVec.ofNat 8 (0x43414C53 / 256 ^ i)
  else if i < 8 then Config.factoryCal i
  else if i < 16 then BitVec.ofNat 8 (s.fuses.serial.toNat / 256 ^ (i - 8))
  else if i < 20 then BitVec.ofNat 8 ((crc32c ((List.range 4032).map (fun k => factoryBody (64 + k)))).toNat / 256 ^ (i - 16))
  else if i < 64 then 0
  else factoryBody i

/-- One byte of the live calibration set: the factory's until a commit has taken effect. -/
def State.calByte (s : State) (i : Nat) : Byte :=
  if s.power.calLive.isEmpty then s.factoryByte i else s.power.calLive.get i

/-- A 16-bit field of the live set. -/
def State.calHalf (s : State) (i : Nat) : Nat := (s.calByte i).toNat + 256 * (s.calByte (i + 1)).toNat

/-- A part of the set failed its check at boot: 0 V/f table, 1 energies, 2 trims, 3 seeds (R345). -/
def State.calBad (s : State) (part : Nat) : Bool := s.fieldAt (kBw 0x34) (4 + part) 1 = 1

/-- qclk of a point in MHz. -/
def State.pointMhz (s : State) (p : Nat) : Nat :=
  if s.calBad 0 then min 1200 (typPoint p) else s.calHalf (64 + 8 * p)

/-- VCORE of a point in mV, without ageing offset and guard band. -/
def State.pointVcore (s : State) (p : Nat) : Nat := if s.calBad 0 then 800 else s.calHalf (66 + 8 * p)

/-- VSRAM of a point in mV; the built-in table has the operating voltage of R329. -/
def State.pointVsram (s : State) (p : Nat) : Nat := if s.calBad 0 then 800 else s.calHalf (68 + 8 * p)

/-- Power scale s_p of a point in 1/1,024. -/
def State.pointScale (s : State) (p : Nat) : Nat := if s.calBad 0 then Config.builtInScale p else s.calHalf (70 + 8 * p)

/-- Applied VCORE of a point: the table's, the ageing offset, and the 20 mV guard band under Stillwater (R311, R343). -/
def State.pointMv (s : State) (p : Nat) (sw : Bool) : Nat :=
  s.pointVcore p + 5 * s.fieldAt (kBw 0x28) (4 * p) 4 + (if sw then 20 else 0)

/-- A point that ageing has not disabled (R343). -/
def State.pointOn (s : State) (p : Nat) : Bool := s.fieldAt (kBw 0x24) (16 + p) 1 = 0

/-- VF_CUR.POINT. -/
def State.point (s : State) : Nat := s.fieldAt (kBw 0x10) 0 3

/-! ### Rails (R329, R330) -/

/-- The record of a rail, at its operating voltage until it is changed (R329): AVSBus rails 0 to 2, then VSER, VAUX, VAON and the
two supplies of VNAND. -/
def State.rail (s : State) (r : Nat) : Rail :=
  let v := if r = 0 then s.fieldAt (kBw 0x10) 4 12 else ([0, 800, 900, 850, 800, 800, 2500, 1200].drop r).headD 0
  tabGet s.power.rails r { mv := v, target := v, step := none }

/-- The record of a rail stored. -/
def State.setRail (s : State) (r : Nat) (x : Rail) : State :=
  { s with power := { s.power with rails := tabSet s.power.rails r x } }

/-- A rail is to move to a voltage; VF_CUR shows the target of VCORE (R348). -/
def State.railTo (s : State) (r mv : Nat) : State :=
  let x := s.rail r
  let s := s.setRail r { x with target := mv }
  if r = 0 then s.setField (kBw 0x10) 4 12 mv else s

/-- The clock runs at a point: a change of qclk ends alignment (R316), and VCORE and VSRAM follow (R330, R344). -/
def State.runPoint (s : State) (p : Nat) (sw : Bool) : State :=
  let f := s.pointMhz p
  let s := if f = s.fieldAt (kBw 0x10) 16 12 then s else s.endAlign
  let s := (s.setField (kBw 0x10) 16 12 f).setField (kBw 0x10) 0 3 p
  (s.railTo 1 (s.pointVsram p)).railTo 0 (s.pointMv p sw)

/-- A change of point inside the plan is a tide-variance source (R335). -/
def State.rescale (s : State) (p : Nat) : State :=
  if p = s.point then s.runPoint p s.stillwater else (s.variance 5).runPoint p s.stillwater

/-- The next voltage toward the target, at most 25 mV away (R330). -/
def Rail.next (x : Rail) : Nat := if x.mv < x.target then min x.target (x.mv + 25) else max x.target (x.mv - 25)

/-- A rail change fails with a code: the rail stays at the last acknowledged value. A failed raising ends the transition
in progress: an exit returns to the state it left (R330). -/
def avsFail (r code : Nat) (s : State) : State :=
  let x := s.rail r
  let raising := decide (x.mv < x.target)
  let s := (s.setRail r { x with target := x.mv, step := none }).orReg (kBw 4) 0x20
  let s := if r = 0 then s.setField (kBw 0x10) 4 12 x.mv else s
  let s := s.pwrError code
  if raising && s.power.st = .exiting then
    (s.setPwr s.power.from').setField (kAon 4) 16 8 0
  else s

/-- VDone is set: the step is made (R330). -/
def execAvsVdone (rail : Nat) (s : State) : Res :=
  .next (let x := s.rail rail
    match x.step with
    | some v => s.setRail rail { x with mv := v, step := none }
    | none => s)

/-- 200 µs pass without VDone (R330). -/
def execAvsTmo (rail : Nat) (s : State) : Res :=
  .next (match (s.rail rail).step with
    | some _ => avsFail rail 0x92 s
    | none => s)

/-! ### Telemetry (R331) -/

/-- A PMBus transaction that failed twice is logged and leaves the old value; one that succeeded gives its own. -/
def pmbusRead (r : Option Nat) (put : Nat → State → State) (s : State) : State :=
  match r with
  | some v => put v s
  | none => (s.orReg (kBw 4) 0x40).powerCode 0x98

/-- A fault bit of a STATUS_WORD (R331). -/
def vrFault (v : Nat) (s : State) : State := if v = 0 then s else (s.orReg (kBw 4) 0x80).powerCode 0x9A

/-- The readings of one rail. -/
def pollRail (s : State) (r : RailReading × Nat) : State :=
  let k := kBw (0x110 + 8 * r.2)
  let s := pmbusRead (r.1.vout.map (·.toNat)) (fun v s => s.setField k 0 16 v) s
  let s := pmbusRead (r.1.iout.map (·.toNat)) (fun v s => s.setField k 16 16 v) s
  let s := pmbusRead (r.1.temp.map (·.toNat)) (fun v s => s.setReg (kBw (0x114 + 8 * r.2)) (w32 v)) s
  pmbusRead (r.1.fault.map bit) vrFault s

/-- The readings of the input monitor. -/
def pollInput (r : InputReading) (s : State) : State :=
  let s := pmbusRead (r.vin.map (·.toNat)) (fun v s => s.setField (kBw 0x100) 0 16 v) s
  let s := pmbusRead (r.iin.map (·.toNat)) (fun v s => s.setField (kBw 0x100) 16 16 v) s
  pmbusRead (r.pin.map (·.toNat)) (fun v s => s.setReg (kBw 0x104) (w32 v)) s

/-- The 1 ms poll of the input monitor and of rails 0 to 4. -/
def execPmbusPoll (input : InputReading) (rails : List RailReading) (s : State) : Res :=
  .next (((rails.take 5).zipIdx).foldl pollRail (pollInput input s))

/-! ### Estimate (R332) and emergency limit (R336) -/

/-- An FP32 energy in units of 2^−149 pJ. -/
def fpEnergy (x : Nat) : Nat :=
  if fld x 23 8 = 0 then fld x 0 23 else (2 ^ 23 + fld x 0 23) * 2 ^ (fld x 23 8 - 1)

/-- Energy of one event of a class. -/
def State.classEnergy (s : State) (c : Nat) : Nat :=
  if s.calBad 1 then Config.builtInEnergy c
  else fpEnergy (s.calHalf (128 + 4 * c) + 2 ^ 16 * s.calHalf (130 + 4 * c))

/-- Energy of counted events, by class 0 to 31. -/
def State.eventEnergy (s : State) (counts : List Nat) : Nat :=
  (((counts.take 32).zipIdx).map (fun p => p.1 * s.classEnergy p.2)).sum

/-- Static power at the present rail voltages and die temperatures (R332). -/
def State.leakage (s : State) : Nat :=
  Config.staticPower ((List.range 8).map (fun r => (s.rail r).mv)) (s.fieldAt (kMem 0) 0 12) s.power.logicTemp.toNat

/-- Power in 0.1 W over a time in ns: events, and the leakage. -/
def State.powerOver (s : State) (counts : List Nat) (ns : Nat) : Nat :=
  s.eventEnergy counts / (100 * ns * 2 ^ 149) + s.leakage

/-- CAP in W. -/
def State.cap (s : State) : Nat := s.fieldAt (kBw 0) 0 11

/-- The next enabled point below the current one, if there is one. -/
def State.pointBelow (s : State) : Option Nat := (List.range 8).find? (fun p => decide (s.point < p) && s.pointOn p)

/-- The emergency limit lowers qclk by one point (R336). -/
def emergencyLower (s : State) : State :=
  let s := { s with power := { s.power with emergAt := some s.now } }
  let s := match s.pointBelow with
    | some p => ({ s with power := { s.power with lowered := s.power.lowered + 1 } }).rescale p
    | none => s
  ((s.orReg (kBw 4) 8).breach 6).powerCode 0x94

/-- The condition of R336 after a window: P_AVG above 1.02 CAP for 100 µs without a break, or the window above
1.25 CAP. -/
def State.overLimit (s : State) (est : Nat) : Bool :=
  decide (1250 * s.cap < 100 * est) ||
  (match s.power.overSince with
   | some t => decide (100000 ≤ s.now.toNat - t.toNat)
   | none => false)

/-- The watch of R336 over a window's figures. -/
def watchLimit (est avg : Nat) (s : State) : State :=
  let above := decide (1020 * s.cap < 100 * avg)
  let below := decide (100 * avg < 950 * s.cap)
  let s := { s with power := { s.power with
    overSince := if above then some (s.power.overSince.getD s.now) else none,
    underSince := if below then some (s.power.underSince.getD s.now) else none } }
  if !s.overLimit est then { s with power := { s.power with emergAt := none } }
  else match s.power.emergAt with
    | some t => if 100000 ≤ s.now.toNat - t.toNat then emergencyLower s else s
    | none => emergencyLower s

/-- A window ends: P_est, P_AVG over the last 500 windows, and the emergency limit (R332, R336). -/
def execEstimateWindow (counts : List Nat) (s : State) : Res :=
  .next (let s := s.passTo (w64 (2000 * ceilDiv s.now.toNat 2000))
    let est := s.powerOver counts 2000
    let ws := (est :: s.power.windows).take 500
    let avg := ws.sum / ws.length
    let s := { s with power := { s.power with windows := ws } }
    let s := (s.setReg (kBw 8) (w32 (min est 65535))).setReg (kBw 0xC) (w32 (min avg 65535))
    watchLimit est avg s)

/-! ### Learning (R337) and the cap (R335) -/

/-- Key of LEARN_k. -/
def kLearn (k : Nat) : Nat := kBw (0x400 + 4 * k)

/-- Static estimate of phase k in 0.1 W. -/
def State.estOf (s : State) (k : Nat) : Nat :=
  10 * ((s.tide.chart.map (fun c => (c.est.drop k).headD 0)).getD 0)

/-- Phases of the running chart. -/
def State.phaseCount (s : State) : Nat := (s.tide.chart.map (·.phases.length)).getD 0

/-- Learning restarts from the chart's estimates. -/
def learnRestart (s : State) : State :=
  let s := { s with power := { s.power with maxM := [] } }
  let s := (s.setField (kBw 4) 24 8 0).setField (kBw 4) 0 1 0
  (List.range 64).foldl (fun s k => s.setReg (kLearn k) (w32 (min 65535 (115 * s.estOf k / 100)))) s

/-- The largest m_k so far. -/
def State.maxMk (s : State) (k : Nat) : Nat := tabGet s.power.maxM k 0

/-- Phase k of a tide has ended with m_k, in 0.1 W at the 1.60 GHz point. -/
def learnPhase (k m : Nat) (s : State) : State :=
  if s.fieldAt (kBw 4) 24 8 < 64 then
    let s := { s with power := { s.power with maxM := tabSet s.power.maxM k (max (s.maxMk k) m) } }
    s.setReg (kLearn k) (w32 (min 65535 (max (115 * s.estOf k / 100) (s.maxMk k))))
  else
    let l := s.fieldAt (kLearn k) 0 16
    s.setReg (kLearn k) (w32 (min 65535 (max (103 * m / 100) (l - l / 256))))

/-- m_k of a phase of `ns` ns with the events counted in it: its power, normalised by s_p. -/
def State.phasePower (s : State) (counts : List Nat) (ns : Nat) : Nat :=
  s.powerOver counts ns * 1024 / s.pointScale s.point

/-- A tide has ended: n counts it, and at n = 64 the learning is done. -/
def learnTide (s : State) : State :=
  let n := s.fieldAt (kBw 4) 24 8
  if 64 ≤ n then s
  else
    let s := s.setField (kBw 4) 24 8 (n + 1)
    if n + 1 < 64 then s
    else
      (List.range s.phaseCount).foldl
        (fun s k => s.setReg (kLearn k) (w32 (min 65535 (103 * s.maxMk k / 100)))) (s.orReg (kBw 4) 1)

/-- The largest L_k of the running chart. -/
def State.maxLearn (s : State) : Nat := ((List.range s.phaseCount).map (fun k => s.fieldAt (kLearn k) 0 16)).foldl max 0

/-- The highest point whose largest L_k × s_p fits the cap, the lowest one where none fits (R335). -/
def State.planPoint (s : State) : Nat :=
  ((List.range 8).find? (fun p => s.pointOn p && decide (s.maxLearn * s.pointScale p ≤ 10240 * s.cap))).getD 7

/-- A voltage raise for a higher point is made during the tide before (R335). -/
def planRaise (s : State) : State :=
  if s.stillwater || s.power.lowered != 0 then s
  else
    let v := s.pointMv s.planPoint false
    if (s.rail 0).target < v then s.railTo 0 v else s

/-- Points below the plan are given back after P_AVG has stayed under 0.95 CAP for 1 ms (R336). -/
def restoreLimit (s : State) : State :=
  match s.power.underSince with
  | some t =>
    if s.power.lowered != 0 && decide (1000000 ≤ s.now.toNat - t.toNat) then
      { s with power := { s.power with lowered := 0 } }
    else s
  | none => s

/-- The point for Stillwater: the highest at most 1.52 GHz (R310, R311). -/
def State.swPoint (s : State) : Nat :=
  ((List.range 8).find? (fun p => s.pointOn p && decide (s.pointMhz p ≤ 1520))).getD 7

/-- The breakwater's choice at a tide boundary (R335, R336): the planned point less the points that the emergency limit
took, as far as the acknowledged VCORE supports it; under Stillwater the clock stays, and a point that the limit took comes back
once VCORE has been raised for it (R330). -/
def powerBoundary (s : State) : State :=
  let s := restoreLimit s
  if s.stillwater then
    if s.power.lowered != 0 || s.point = s.swPoint then s
    else if s.pointMv s.swPoint true ≤ (s.rail 0).mv then s.rescale s.swPoint
    else s.railTo 0 (s.pointMv s.swPoint true)
  else
    let p := s.planPoint + s.power.lowered
    let v := (s.rail 0).mv
    match (List.range 8).find? (fun i => decide (min p 7 ≤ i) && s.pointOn i && decide (s.pointMv i false ≤ v)) with
    | some i => planRaise (s.rescale i)
    | none => planRaise s

/-- LEARN_RESET (R337). -/
def execLearnReset (s : State) : Res := .next (learnRestart s)

/-- A write of CAP (R335): outside 700 to 1,500 W reserved; under Stillwater it waits for the next start or switch. -/
def capStore (rq : Req) (v : Nat) (s : State) : State :=
  if v < 700 || 1500 < v then s.regRsvd rq 0x200000
  else if s.stillwater then
    ({ s with power := { s.power with capStaged := some (BitVec.ofNat 11 v) } }).orReg (kBw 4) 4
  else s.setField (kBw 0) 0 11 v

/-- A write of BW_CTRL by its write form: CAP, then LEARN_RESET (R348, R421). -/
def bwCtrlStore (rq : Req) (f : W32 × W32) (s : State) : State :=
  let v := mergeBits (s.reg (kBw 0)) f
  let s := if fld f.2.toNat 0 11 = 0 then s else capStore rq (getBits v 0 11) s
  if getBits (f.1 &&& f.2) 16 1 = 1 then learnRestart s else s

/-- CAP_WRITE: BW_CTRL is a whole-word register (R421). -/
def execCapWrite (data : W32) (s : State) : Res := .next (bwCtrlStore .host (writeForm (s.maskMode 2) true data) s)

/-- A staged cap takes effect at a chart start or switch (R335). -/
def applyCap (s : State) : State :=
  match s.power.capStaged with
  | some v => (({ s with power := { s.power with capStaged := none } }).setField (kBw 0) 0 11 v.toNat).setField (kBw 4) 2 1 0
  | none => s

/-! ### Droop (R338) -/

/-- A droop detector sees VCORE `mv` mV below target. -/
def execDroop (mv : Nat) (s : State) : Res :=
  .next (if s.power.stretch || mv < (if s.stillwater then 45 else 25) then s
    else
      let sw := s.stillwater
      let s := { s with power := { s.power with stretch := true } }
      let s := (((s.orReg (kBw 4) 0x10).variance 3).endAlign).breach 4
      if sw then s.powerCode 0x96 else s)

/-- VCORE is back within 15 mV of target: the period is the point's again, and a change of qclk ends alignment (R316). -/
def execDroopEnd (s : State) : Res :=
  .next (if s.power.stretch then { s with power := { s.power with stretch := false } }.endAlign else s)

/-! ### Ageing (R343) -/

/-- Every enabled quay is stopped. -/
def State.allStopped (s : State) : Bool := (List.range 144).all (fun q => !s.enabled q || (s.quay q).st.isStopped)

/-- Chart state NONE or REFUSED. -/
def State.noChart (s : State) : Bool := s.chartState = 0 || s.chartState = 6

/-- A re-plan starts where R343 accepts it. -/
def ageReplan (s : State) : State :=
  if s.power.st = .a0 && s.noChart && s.allStopped then
    ({ s with power := { s.power with replan := true } }).orReg (kBw 0x24) 1
  else s.orReg (kAon 4) 0x10

/-- AGE_CTRL.REPLAN (R343, R348). -/
def execAgeReplan (s : State) : Res := .next (ageReplan s)

/-- AGE_MARGIN is logged (R343, R347, R348). -/
def ageAlarm (s : State) : State := (s.orReg (kBw 4) 0x100).powerCode 0x99

/-- Offsets after a re-plan: they only rise, to at most 8 steps of 5 mV. -/
def ageOffsets (old : W32) (offsets : List Nat) : W32 :=
  w32 (((List.range 8).map (fun p => max (getBits old (4 * p) 4) (min 8 ((offsets.drop p).headD 0)) * 2 ^ (4 * p))).sum)

/-- The ageing record is written to the silo (R343, R377); a read-only silo keeps the old one (R380). -/
def ageRecord (s : State) : State :=
  if s.siloWritable then
    let s := s.useFree.siloWrote 1 (Config.freeCount s.free)
    { s with silo := { s.silo with savedAge := (s.reg (kBw 0x28), BitVec.ofNat 8 (s.fieldAt (kBw 0x24) 16 8)) } }
  else s

/-- A re-plan ends (R343): new offsets, the points it disabled, and the record written to the silo. -/
def execReplanDone (offsets : List Nat) (disabled margin : BitVec 8) (worst : BitVec 4) (s : State) : Res :=
  .next (if !s.power.replan then s
    else
      let s := { s with power := { s.power with replan := false } }
      let s := s.setReg (kBw 0x28) (ageOffsets (s.reg (kBw 0x28)) offsets)
      let dis := s.fieldAt (kBw 0x24) 16 8 ||| disabled.toNat
      let s := s.setReg (kBw 0x24) (w32 (dis * 2 ^ 16 + worst.toNat * 2 ^ 12 + margin.toNat * 16 + 2))
      let s := if disabled = 0 then s else ageAlarm s
      ageRecord (s.runPoint s.point s.stillwater))

/-- A region reports the smallest margin (R343): below 15 ps it is logged once per boot. -/
def execAgeMargin (worst : BitVec 4) (margin : BitVec 8) (s : State) : Res :=
  .next (let s := (s.setField (kBw 0x24) 12 4 worst.toNat).setField (kBw 0x24) 4 8 margin.toNat
    if margin.toNat < 15 && !s.power.ageLogged then
      ageAlarm { s with power := { s.power with ageLogged := true } }
    else s)

/-! ### Calibration (R346) -/

/-- A calibration command is not accepted. -/
def calReject (s : State) : State := s.orReg (kBw 0x34) 4

/-- A calibration command begins. -/
def calBegin (cmd : Nat) (s : State) : State :=
  if s.power.calCmd.isSome then calReject s
  else ({ s with power := { s.power with calCmd := some cmd } }).orReg (kBw 0x34) 1

/-- CAL_CMD LOAD. -/
def execCalLoad (s : State) : Res := .next (calBegin 1 s)
/-- CAL_CMD CAPTURE_EQ. -/
def execCalCaptureEq (s : State) : Res := .next (calBegin 2 s)

/-- The key was written within the last 1 ms. -/
def State.calArmed (s : State) : Bool :=
  match s.power.calKey with
  | some t => decide (s.now.toNat - t.toNat ≤ 1000000)
  | none => false

/-- A CAL_CMD command: 1 LOAD, 2 CAPTURE_EQ, 3 COMMIT, the last only within 1 ms of the key (R346, R348). -/
def calCommand (cmd : Nat) (s : State) : State :=
  if cmd = 0 then s else if cmd = 3 && !s.calArmed then calReject s else calBegin cmd s

/-- CAL_CMD COMMIT: only within 1 ms of the key. -/
def execCalCommit (s : State) : Res := .next (calCommand 3 s)

/-- A write of CAL_KEY: 0x0000_CA1B arms COMMIT. -/
def calKeyStore (data : W32) (s : State) : State :=
  if data = 0xCA1B then { s with power := { s.power with calKey := some s.now } } else s

/-- CAL_KEY_WRITE. -/
def execCalKeyWrite (data : W32) (s : State) : Res := .next (calKeyStore data s)

/-- Staging replaced. -/
def State.setStage (s : State) (m : Mem) : State := { s with power := { s.power with calStage := m } }

/-- The learned EQ values of an UP port in the layout of the seeds (R344). -/
def eqBytes (p : Nat) (s : State) : List Byte :=
  ((List.range 8).map (fun i => leBytes 4 (s.fieldAt (pkey p (0x100 + 4 * i)) 0 28))).flatten

/-- The staging seeds take the values of every UP port. -/
def captureEq (s : State) : State :=
  s.setStage ((List.range 16).foldl
    (fun m p => if (s.port p).st = .up then m.write (768 + 32 * p) (eqBytes p s) else m) s.power.calStage)

/-- Staging with its CRC and ORIGIN 1, written to the silo as the set of the next module reset (R377); a read-only silo keeps the
set it has (R380). -/
def commitCal (s : State) : State :=
  let m := s.power.calStage.write 20 [1]
  let m := m.write 16 (leBytes 4 (crc32c (m.read 64 4032)).toNat)
  let s := { s with power := { s.power with calStage := m } }
  if s.siloWritable then ({ s with power := { s.power with calNext := some m } }).siloWrote 1 4096 else s

/-- The command in progress completes (R346). -/
def execCalCmdDone (s : State) : Res :=
  .next (match s.power.calCmd with
    | none => s
    | some c =>
      let s := if c = 1 then s.setStage (Mem.write [] 0 ((List.range 4096).map s.calByte))
        else if c = 2 then captureEq s else commitCal s
      let s := { s with power := { s.power with calCmd := none } }
      (s.setField (kBw 0x34) 0 1 0).orReg (kBw 0x34) 2)

end Sys2Proof.Machine
end

