-- ==== Sys2Proof/Machine/Memory.lean ====
section
/-! DEFINITION. The memory stack's own events: write-back, scrub, refresh, repair, its log, and the tenant scrub of a
quay (R110, R122 to R133, R384). -/

namespace Sys2Proof.Machine

/-- The port writes a corrected codeword back, unless the word was written meanwhile (R122): the mark goes. -/
def execEccWriteback (space : BitVec 2) (q ofs : Nat) (s : State) : Res :=
  .next (let a := stackAddr q space.toNat ofs
    s.setEcc (s.stack.ecc.filter (fun m => !(m.2 == .corrected && decide (m.1 ≤ a) && decide (a < m.1 + cwBytes m.1)))))

/-! ### Scrub (R124) -/

/-- One line of a column is read and corrected (R122, R124): corrected codewords are counted, logged and rewritten,
uncorrectable ones logged with KIND 0b10 and left (R123). -/
def scrubRange (a n : Nat) (s : State) : State :=
  let marks := marksIn s.stack.ecc a n
  let s := marks.foldl (fun s m => match m.2 with
    | .corrected => s.eccCorrected m.1
    | .uncorrectable => s.eccUncorrectable 2 m.1) s
  s.setEcc (s.stack.ecc.filter (fun m => !(m.2 == .corrected && marks.contains m)))

/-- Lines of a hold column and of a context column. -/
def holdLines : Nat := 196608
/-- Lines of a context column; the last is short. -/
def ctxLines : Nat := 629146

/-- The scrub engine of a column takes its next hold line and context line. -/
def scrubColumn (q : Nat) (s : State) : State :=
  let p := tabGet s.stack.scrub q (0, 0)
  let s := scrubRange (stackAddr q 1 (256 * p.1)) 256 s
  let s := scrubRange (stackAddr q 2 (320 * p.2)) (min 320 (0xC000000 - 320 * p.2)) s
  { s with stack := { s.stack with
      scrub := tabPut s.stack.scrub q ((p.1 + 1) % holdLines, (p.2 + 1) % ctxLines) (0, 0) } }

/-- SCRUB_LINE, outside Stillwater: under it a line is scrubbed in each refresh window (R124, R309). -/
def execScrubLine (q : Nat) (s : State) : Res := .next (if s.enabled q && !s.stillwater then scrubColumn q s else s)

/-! ### Refresh (R127 to R131) -/

/-- MEM_THERM.CLASS. -/
def State.refreshClass (s : State) : Nat := s.fieldAt (kMem 0) 18 2

/-- The class is above the one that the running chart declares (R130, R312). -/
def State.classExceeded (s : State) : Bool :=
  s.chartRuns && s.tide.chart.any (fun c => decide (c.refreshClass < s.refreshClass))

/-- 10 ms in ns. -/
def coolTime : Nat := 10000000

/-- Since when the temperature is at least 3 °C below a threshold, all in 1/16 °C. -/
def coolSince (s : State) (thr temp : Nat) (old : Option W64) : Option W64 :=
  if temp + 48 ≤ thr then some (old.getD s.now) else none

/-- The temperature has been cool for 10 ms. -/
def cooled (s : State) (c : Option W64) : Bool :=
  match c with
  | some t => decide (coolTime ≤ s.now.toNat - t.toNat)
  | none => false

/-- A temperature sample: the class rises at once above 85 or 95 °C and falls after 10 ms at least 3 °C below (R127); above
the declared class it breaks Stillwater (R312). `temp` is the sample with the trims of the set in force, 5 °C too low where they are
bad (R345, entry 66), and `logic` the logic die's temperature; the time since when both are 10 °C below their trip points of
104 and 115 °C is kept for R339. -/
def execThermSample (temp : DieTemps) (hotCol : BitVec 6) (s : State) : Res :=
  .next (let t := if s.calBad 2 then min 4095 (temp.cell.toNat + 80) else temp.cell.toNat
    let c1 := coolSince s 1360 t s.stack.cool1
    let c2 := coolSince s 1520 t s.stack.cool2
    let old := s.refreshClass
    let up := if 1520 < t then 2 else if 1360 < t then 1 else 0
    let down := if old = 2 && !cooled s c2 then 2 else if 1 ≤ old && !cooled s c1 then 1 else 0
    let s := { s with stack := { s.stack with cool1 := c1, cool2 := c2 } }
    let c3 := if t ≤ 1504 && temp.logic.toNat ≤ 1680 then some (s.power.coolSince.getD s.now) else none
    let s := { s with power := { s.power with logicTemp := temp.logic, coolSince := c3 } }
    let s := s.setReg (kMem 0) (w32 (max up down * 2 ^ 18 + hotCol.toNat * 2 ^ 12 + t))
    if s.classExceeded then s.breach 5 else s)

/-- A due refresh slot takes the context port for 4 free qclk (R128): its rows are rewritten as they are. -/
def execRefreshSlot (_q : Nat) (s : State) : Res := .next s

/-- Slots are forced outside Stillwater, and under it where no chart runs that brings windows, or while the class exceeds the
declared one (R128, R130; the case without a chart: entry 107). -/
def State.mayForce (s : State) : Bool := !s.stillwater || !s.chartRuns || s.classExceeded

/-- The zero engines run: in Stillwater only in the refresh windows of the chart that runs (R119, R309; without a chart: entry
107). -/
def State.zeroRuns (s : State) : Bool :=
  !s.stillwater || !s.chartRuns ||
  s.tide.chart.any (fun c => c.windows.any (fun w => decide (w.start ≤ s.time.qclk) && decide (s.time.qclk ≤ w.start + w.len)))

/-- A forced slot: REF_STEAL, the tide's variance, and in Stillwater REF_FORCED with its breach (R128, R130, R312). -/
def execRefreshForced (q : Nat) (s : State) : Res :=
  .next (if !s.enabled q || !s.mayForce then s
    else
      let s := (s.bump (kMem 0x30) 1).variance 2
      if s.stillwater && s.classExceeded then (s.memStatus 1).breach 5 else s)

/-- A refresh window of the chart opens in Stillwater: its slots run and every port scrubs one line (R124, R129). -/
def execRefreshWindow (w : Nat) (s : State) : Res :=
  .next (match s.tide.chart with
    | some c =>
      if s.stillwater && decide (w < c.windows.length) then
        (List.range 144).foldl (fun s q => if s.enabled q then scrubColumn q s else s) s
      else s
    | none => s)

/-- Context bytes of one refresh slot: 16 rows of 2 KiB in each of four dies whose words alternate (R114, R128). -/
def slotBytes : Nat := 131072

/-- A slot passes its interval unrefreshed: every codeword of its rows is uncorrectable, and REF_LATE is logged (R131). -/
def execRefLate (q slot : Nat) (s : State) : Res :=
  .next (if !s.enabled q || 1536 ≤ slot then s
    else
      let a := stackAddr q 2 (slot * slotBytes)
      let below := s.stack.ecc.filter (fun m => decide (m.1 < a))
      let above := s.stack.ecc.filter (fun m => decide (a + slotBytes ≤ m.1))
      let s := s.setEcc (below ++ (List.range 4096).map (fun i => (a + 32 * i, EccMark.uncorrectable)) ++ above)
      (s.eccPush 3 a).memStatus 2)

/-! ### Repair (R125, R126) -/

/-- Spares of a column: rows and column groups per die, SRAM dies 0 and 1, gain-cell dies 2 to 5 (R125). -/
def spares (group : Bool) (die : Nat) : Nat :=
  if group then (if die < 2 then 4 else 8) else if die < 2 then 32 else 64

/-- The entry a REPAIR_CMD word names. -/
def repairOf (d : W32) : Repair :=
  { group := getBits d 30 1 = 1, die := getBits d 27 3, quay := getBits d 19 8, index := getBits d 0 15 }

/-- An entry with a reserved DIE, column or index (R133): row 0 to 24,575, column group 0 to 255. -/
def repairBad (r : Repair) : Bool :=
  decide (6 ≤ r.die) || decide (144 ≤ r.quay) || (if r.group then decide (256 ≤ r.index) else decide (24576 ≤ r.index))

/-- A write of REPAIR_CMD, which is whole-word (R126, R133, R421). -/
def repairStore (rq : Req) (d : W32) (s : State) : State :=
  let r := repairOf d
  let go := getBits d 31 1 = 1
  if repairBad r || (go && !(s.quay r.quay).st.isStopped) then s.regRsvd rq (0x1000000 + 0x200)
  else
    let s := s.setReg (kMem 0x200) (d &&& 0x7FF87FFF)
    if !go then s
    else
      let same := fun (x : Repair) => x.group = r.group && x.die = r.die && x.quay = r.quay
      let used := ((s.stack.repairs ++ s.stack.repairing).filter same).length
      if spares r.group r.die ≤ used then (s.emit (.logged 0x76)).trace 6 0x76 r.quay [d]
      else { s with stack := { s.stack with repairing := s.stack.repairing ++ [r] } }

/-- REPAIR_CMD with GO. -/
def execRepairCmdGo (data : W32) (s : State) : Res := .next (repairStore .host data s)

/-- A codeword lies in the row or column group that an entry replaces: its column and die by R111 and R114, the place in the
die by the die's own layout, which the spec does not give (entry 63). -/
def Repair.holds (r : Repair) (a : Nat) : Bool :=
  decide (a < 2 ^ 40) && saQuay a = r.quay && saSpace a = (if r.die < 2 then 1 else 2) && eccDie a = r.die &&
  Config.inRepair r.group r.index (saOffset a)

/-- The old row or column group passes through ECC into the spare: corrected codewords are counted, logged and clean in it,
uncorrectable ones logged and as they were (R122, R126). -/
def repairCopy (r : Repair) (s : State) : State :=
  let marks := s.stack.ecc.filter (fun m => r.holds m.1)
  let s := marks.foldl (fun s m => match m.2 with
    | .corrected => s.eccCorrected m.1
    | .uncorrectable => s.eccUncorrectable 1 m.1) s
  s.setEcc (s.stack.ecc.filter (fun m => !(m.2 == .corrected && r.holds m.1)))

/-- The copy into the spare is done and the map switched: REPAIR_DONE (R126, R133). -/
def execRepairDone (s : State) : Res :=
  .next (match s.stack.repairing with
    | [] => s
    | r :: rs =>
      let s := repairCopy r s
      ({ s with stack := { s.stack with repairing := rs, repairs := s.stack.repairs ++ [r] } }).memStatus 0)

/-- ECC_LOG_POP (R133). -/
def execEccLogPop (s : State) : Res := .next { s with eccLog := s.eccLog.drop 1 }

/-! ### Tenant scrub (R110, R384) -/

/-- SCRUB_DONE (R110). -/
def execScrubDone (q : Nat) (s : State) : Res := .next (scrubEnd q s)

end Sys2Proof.Machine
end

