-- ==== Sys2Proof/Machine/Berths.lean ====
section
/-! DEFINITION. Berths and containers: records, the container pool, zeroing, the events a berth posts, and what a chart's
boundaries, stops and switches do to berths (R266 to R273, R284, R289, R296, R297, R301, R353). -/

namespace Sys2Proof.Machine

/-- The record of a berth that is not FREE. -/
def State.berth (s : State) (b : Nat) : Option Berth := tabFind s.serve.berths b
/-- The record of a berth stored. -/
def State.setBerth (s : State) (b : Nat) (x : Berth) : State :=
  { s with serve := { s.serve with berths := tabSet s.serve.berths b x } }
/-- Every berth that is not FREE, by ID. -/
def State.berthIds (s : State) : List Nat := s.serve.berths.map (·.1)

/-- State codes of R268. -/
def berthCode : BState → Nat
  | .queued => 1
  | .prefill => 2
  | .decode => 3
  | .ready => 4
  | .parking => 5
  | .parked => 6
  | .unparking => 7
  | .cancelling => 8
  | .retiring => 9
  | .failed => 10

/-- NBLK: linked containers per layer group. -/
def Berth.nblk (x : Berth) : Nat := (x.pages.headD []).length
/-- Every container of a berth: linked, spill and tree. -/
def Berth.containers (x : Berth) : List W32 := x.pages.flatten ++ x.spill ++ x.tree
/-- Containers that a berth holds: RETIRING and CANCELLING hold theirs until they are zeroed (R268, R283). -/
def Berth.holds (x : Berth) : Nat :=
  x.containers.length + (if x.st = .retiring || x.st = .cancelling then x.zeroing.length else 0)

/-! ### Containers (R118, R119, R272, R385) -/

/-- QUAY and slot of a CID. -/
def cidQuay (c : W32) : Nat := getBits c 24 8
/-- Slot of a CID. -/
def cidSlot (c : W32) : Nat := getBits c 0 24
/-- The CID of a slot of a column. -/
def cidOf (q slot : Nat) : W32 := w32 (q * 2 ^ 24 + slot)
/-- Stack address of a container. -/
def State.cidAddr (s : State) (c : W32) : Nat := stackAddr (cidQuay c) 2 (cidSlot c * s.stack.container)

/-- Ranges of a manifest: stack address and bytes of each region (R271, R273). -/
def Manifest.regions (m : Manifest) : List (Nat × Nat) :=
  [(sadr m.stepTbl.toNat, 128 * m.nslot), (sadr m.resultTbl.toNat, 768 * m.nslot),
   (sadr m.ptMirror.toNat, 4 * m.nslot * m.ngroup * (m.kmax + 2)), (sadr m.pfTok.toNat, 8 * m.pfChunks * m.pfTokens),
   (sadr m.tmpl.toNat, 1024)]

/-- A container slot overlaps a region of the manifest. -/
def State.inRegion (s : State) (q slot : Nat) : Bool :=
  let a := stackAddr q 2 (slot * s.stack.container)
  s.serve.manifest.any (fun m => m.regions.any (fun r => decide (r.1 < a + s.stack.container) && decide (a < r.1 + r.2)))

/-- Free containers of one column. -/
def State.freeIn (s : State) (q : Nat) : List W32 :=
  ((List.range s.slotCount).filter (fun i => !s.inRegion q i && !s.serve.used.contains (cidOf q i))).map (cidOf q)

/-- The free containers of the pool (R272). -/
def State.pool (s : State) : List W32 :=
  ((List.range 144).map (fun q => if s.enabled q then s.freeIn q else [])).flatten

/-- One container leaves the pool for a tenant: which one is Yeweric's choice, and its tag is set (R385, entry 3). -/
def takeOne (tenant : BitVec 12) (s : State) : Option (W32 × State) :=
  let p := s.pool
  match (p.drop (Config.freeCount s.free % p.length)).head? with
  | none => none
  | some c =>
    let s := { s.useFree with serve := { s.serve with used := c :: s.serve.used } }
    some (c, s.setTag (cidQuay c) (cidSlot c) (BitVec.ofNat 16 (2 ^ 15 + tenant.toNat)))

/-- n containers for a tenant; none where the pool holds fewer. -/
def takeMany (tenant : BitVec 12) : Nat → State → Option (List W32 × State)
  | 0, s => some ([], s)
  | n + 1, s =>
    match takeOne tenant s with
    | none => none
    | some (c, s) => (takeMany tenant n s).map (fun r => (c :: r.1, r.2))

/-- Containers are listed with the zero engines (R119, R272). -/
def listZero (cs : List W32) (s : State) : State :=
  { s with stack := { s.stack with zero := s.stack.zero ++ cs } }

/-- Stack address of the page-table mirror of a slot (R273). -/
def Manifest.mirrorAt (m : Manifest) (slot : Nat) : Nat := sadr m.ptMirror.toNat + slot * m.ngroup * (m.kmax + 2) * 4

/-! ### The mirror of a slot (R273) -/

/-- The mirror entries of a slot: per layer group the linked containers, then none, then spill and tree. -/
def mirrorBytes (m : Manifest) (x : Berth) : List Byte :=
  ((List.range m.ngroup).map (fun g =>
    let p := (x.pages.drop g).headD []
    let l := (p ++ List.replicate (m.kmax - p.length) 0xFFFFFFFF).take m.kmax ++
      [(x.spill.drop g).headD 0xFFFFFFFF, (x.tree.drop g).headD 0xFFFFFFFF]
    (l.map (fun c => leBytes 4 c.toNat)).flatten)).flatten

/-- Yeweric writes the mirror of a berth's slot. -/
def mirrorSlot (m : Manifest) (b : Nat) (s : State) : State :=
  match s.berth b with
  | some x =>
    match x.slot with
    | some n => s.writeStack (m.mirrorAt n) (mirrorBytes m x)
    | none => s
  | none => s

/-- Containers leave the mirror: every entry that names one becomes 0xFFFF_FFFF (R272). -/
def unlist (cs : List W32) (s : State) : State :=
  match s.serve.manifest with
  | none => s
  | some m =>
    (List.range (m.nslot * m.ngroup * (m.kmax + 2))).foldl (fun s i =>
      let a := m.mirrorAt 0 + 4 * i
      if cs.contains (w32 (leNat (s.stack.mem.read a 4))) then s.writeStack a [0xFF, 0xFF, 0xFF, 0xFF] else s) s

/-- A berth's containers leave its page table and the mirror and are listed for zeroing; those of a column that is
disabled are lost (R272, R297). -/
def releaseContainers (b : Nat) (s : State) : State :=
  match s.berth b with
  | none => s
  | some x =>
    let cs := x.containers
    let live := cs.filter (fun c => s.enabled (cidQuay c))
    (listZero live (unlist cs s)).setBerth b
      { x with pages := [], spill := [], tree := [], zeroing := x.zeroing ++ live, releaseAt := none }

/-! ### Mirrors held for other modules, and the messages about them (R248, R360, R361) -/

/-- Mirrors held are released: their containers are zeroed before they return to the pool (R272, R360). -/
def mirRelease (p : Mirror → Bool) (s : State) : State :=
  let go := (s.serve.mirrors.filter p).map (·.cids)
  listZero go.flatten { s with serve := { s.serve with mirrors := s.serve.mirrors.filter (fun m => !p m) } }

/-- The record of an origin's berth. -/
def Mirror.isOf (origin : W16) (tag : W64) (tenant : BitVec 12) (m : Mirror) : Bool :=
  m.origin = origin && m.tag = tag && m.tenant = tenant

/-- A container is wanted for a mirror: one of the pool, tagged with the berth's tenant, or a refusal while the pool is below
LOW_WATER (R360, R385). -/
def takeMirror (origin : W16) (tag : W64) (tenant : BitVec 12) (mpos : Nat) (s : State) : State :=
  let low := s.serve.manifest.any (fun m => decide (s.pool.length < m.lowWater))
  match if low then none else takeOne tenant s with
  | none => s.emit (.message origin .refused)
  | some (c, s) =>
    let cids := ((s.serve.mirrors.find? (Mirror.isOf origin tag tenant)).map (·.cids)).getD []
    let m : Mirror := { origin := origin, tag := tag, tenant := tenant, mpos := mpos, cids := cids ++ [c] }
    let s := { s with serve := { s.serve with mirrors := s.serve.mirrors.filter (fun (x : Mirror) => !x.isOf origin tag tenant) ++ [m] } }
    s.emit (.message origin (.taken c))

/-- The partner has lost mirror containers of a berth: MPOS falls to the first of them, which is not this module's to know, and
they are mirrored again (R353, R360, entry 3). -/
def mirrorLost (tag : W64) (s : State) : State :=
  s.berthIds.foldl (fun s b => match s.berth b with
    | some (x : Berth) => if x.tag = tag then s.useFree.setBerth b { x with mpos := min x.mpos (Config.freeCount s.free) } else s
    | none => s) s

/-- A message for the pilot cores, where Yeweric runs (R248, R360, R361). -/
def yewericMessage (k : Packet) (s : State) : State :=
  if !s.yeweric then s
  else match Config.yewericMessage k with
    | .want origin tag tenant mpos => takeMirror origin tag tenant mpos s
    | .lost tag _ => mirrorLost tag s
    | .release origin tag tenant => mirRelease (Mirror.isOf origin tag tenant) s
    | _ => s

/-- The containers of a column leave the mirrors held, and each origin is told of those it has lost (R353). -/
def mirrorsLeave (q : Nat) (s : State) : State :=
  let gone := fun (m : Mirror) => m.cids.filter (fun c => cidQuay c = q)
  let hit := s.serve.mirrors.filter (fun m => !(gone m).isEmpty)
  let s := hit.foldl (fun (s : State) m => s.emit (.message m.origin (.lost m.tag (gone m)))) s
  { s with serve := { s.serve with mirrors := s.serve.mirrors.map (fun m => { m with cids := m.cids.filter (fun c => cidQuay c != q) }) } }

/-! ### Events (R284) -/

/-- An event of a berth: KIND, DETAIL. -/
def berthEvent (kind b detail : Nat) (x : Berth) (s : State) : State :=
  s.cqPush { cmdId := 0xFFFF, status := 0, kind := BitVec.ofNat 8 kind, berth := BitVec.ofNat 16 b, opc := 0,
             tag := x.tag, count := w32 x.generated, detail := w32 detail, urgent := false }

/-- The completion of a command that named a berth (R284). -/
def berthDone (cmdId : W16) (opc ring status b : Nat) (x : Berth) (s : State) : State :=
  s.cqPush (cqDone cmdId (BitVec.ofNat 8 opc) ring status b x.tag (w32 x.generated))

/-- The command that a berth waits for ends with a status, and after it the commands on the berth that were taken since
(R281). -/
def endCmd (b opc status : Nat) (s : State) : State :=
  match s.berth b with
  | none => s
  | some x =>
    match x.cmd with
    | none => s
    | some c =>
      let s := berthDone c.1 opc c.2 status b x (s.setBerth b { x with cmd := none, after := [] })
      x.after.foldl (fun s e => s.cqPush e) s

/-- Extents of a parked image return to the pool (R376). -/
def freeExtents (l : List Nat) (s : State) : State :=
  { s with silo := { s.silo with pool := s.silo.pool.filter (fun e => !l.contains e) } }

/-! ### Ledgers (R340, R341) -/

/-- The berth ledger entry of an ID (R341). -/
def berthLedger (b : Nat) : Nat := 0x1840000 + 16 * b

/-- A 64-bit ledger field grows. -/
def ledgerAdd (a n : Nat) (s : State) : State :=
  { s with windows := s.windows.write a (leBytes 8 (leNat (s.windows.read a 8) + n)) }

/-- Energy units of 2^−149 pJ in a µJ. -/
def unitsPerUj : Nat := 1000000 * 2 ^ 149

/-- A berth's ledger takes the energy of its parks and unparks. -/
def berthSiloEnergy (s : State) (b : Nat) : State :=
  match s.berth b with
  | some x => ledgerAdd (berthLedger b) (x.siloE / unitsPerUj) (s.setBerth b { x with siloE := x.siloE % unitsPerUj })
  | none => s

/-- The partner is told that a berth's mirror record is released, where it holds one (R360). -/
def mirrorDone (x : Berth) (s : State) : State :=
  if x.mpos = 0 then s else s.emit (.message (BitVec.ofNat 16 (s.fieldAt (kMb 0x40) 16 16)) (.release s.fabric.home x.tag x.tenant))

/-- A berth returns to FREE with its FINISHED event, its ledger final; its mirror record is released (R269, R284, R341,
R360). -/
def berthFree (b : Nat) (s : State) : State :=
  match s.berth b with
  | none => s
  | some x =>
    let s := mirrorDone x (freeExtents x.park (berthSiloEnergy s b))
    let s := { s with serve := { s.serve with berths := tabDel s.serve.berths b,
                                              finished := s.serve.finished ++ [(b, x.tag)] } }
    berthEvent 2 b x.reason x s

/-- The berth has given back every container: RETIRING and CANCELLING end, PARKING ends once its image is verified (R269,
R296, R299). -/
def berthEmptied (b : Nat) (s : State) : State :=
  match s.berth b with
  | none => s
  | some x =>
    if !x.zeroing.isEmpty || !x.containers.isEmpty then s
    else match x.st with
      | .retiring | .cancelling => if x.releaseAt.isSome then s else berthFree b s
      | .parking =>
        let s := s.setBerth b { x with st := .parked }
        if x.cmd.isSome then endCmd b 3 0 s else berthEvent 3 b 0 x s
      | _ => s

/-- A container is zero and free: its tag goes, and the berth that gave it back is told (R119, R272, R385). -/
def containerZeroed (c : W32) (s : State) : State :=
  let s := { s with stack := { s.stack with zero := s.stack.zero.erase c } }
  let s := s.setTag (cidQuay c) (cidSlot c) 0
  let s := { s with serve := { s.serve with used := s.serve.used.filter (fun u => u != c) } }
  (s.berthIds).foldl (fun s b =>
    match s.berth b with
    | some x => if x.zeroing.contains c then berthEmptied b (s.setBerth b { x with zeroing := x.zeroing.erase c }) else s
    | none => s) s

/-- The zero engine of column q has finished a container (R119). Codewords that do not decode are logged and overwritten
(R123). -/
def execZeroContainerDone (q slot : Nat) (s : State) : Res :=
  .next (let c := cidOf q slot
    if !s.stack.zero.contains c || !s.zeroRuns then s
    else
      let a := s.cidAddr c
      let s := (marksIn s.stack.ecc a s.stack.container).foldl
        (fun s m => if m.2 = .uncorrectable then s.eccUncorrectable 2 m.1 else s) s
      containerZeroed c (s.zeroStack a s.stack.container))

/-! ### Ends of a berth's service -/

/-- A berth fails with a code (R269): it keeps the containers that remain readable (R268), and a command that waits for it
ends with MB_STATE. -/
def berthFail (b code : Nat) (s : State) : State :=
  match s.berth b with
  | none => s
  | some x =>
    let live := fun (cs : List W32) => cs.filter (fun c => s.enabled (cidQuay c))
    let s := s.setBerth b
      { x with st := .failed, slot := none, adopting := none, pages := x.pages.map live, spill := live x.spill,
               tree := live x.tree }
    berthEvent 5 b code x (endCmd b (if x.st = .unparking then 4 else 3) 0xD4 s)

/-- A berth ends with a finish reason: RETIRING, its slot left, its containers listed (R289); a PARK that waits for its step
boundary ends with MB_ALREADY. -/
def berthRetire (b reason : Nat) (s : State) : State :=
  match s.berth b with
  | none => s
  | some x =>
    let s := s.setBerth b { x with st := .retiring, slot := none, reason := reason }
    berthEmptied b (releaseContainers b (endCmd b 3 0xD5 s))

/-! ### Parking (R299, R376, R378) -/

/-- The POOL slot, if there is one. -/
def State.poolSlot (s : State) : Option SiloSlot := (s.silo.slots.find? (fun p => p.2.st = .pool)).map (·.2)

/-- Free extents of the POOL slot. -/
def State.poolFree (s : State) : List Nat :=
  match s.poolSlot with
  | some x => (List.range x.len).filter (fun e => !s.silo.pool.contains e)
  | none => []

/-- Bytes of the image of n containers (R299, R376). -/
def State.imageBytes (s : State) (n : Nat) : Nat := n * s.stack.container + Config.berthRecordBytes

/-- Bucket level now: it fills at RATE GB per hour, to 24 hours of fill at most (R378). -/
def State.bucketLevel (s : State) : Int :=
  let rate := s.fieldAt (kSilo 0x4C) 0 16
  min (s.silo.bucket + ((s.now.toNat - s.silo.bucketAt.toNat) * rate / 3600 : Nat)) ((24 * rate * 1000000000 : Nat) : Int)

/-- An amount is taken out of the bucket. -/
def bucketTake (n : Nat) (s : State) : State :=
  { s with silo := { s.silo with bucket := s.bucketLevel - n, bucketAt := s.now } }

/-- A berth starts to park where the silo has a place: PARKING, its extents taken (R299, R376). -/
def parkStart (b : Nat) (x : Berth) (cmd : Option (W16 × Nat)) (s : State) : Option State :=
  let n := s.imageBytes x.pages.flatten.length
  let need := ceilDiv n extentBytes
  if !s.siloWritable || s.poolFree.length < need then none
  else
    let ext := s.poolFree.take need
    let s := bucketTake n { s with silo := { s.silo with pool := s.silo.pool ++ ext } }
    some (s.setBerth b { x with st := .parking, slot := none, cmd := cmd, park := ext, parked := x.nblk })

/-- A berth leaves its slot for READY (R269). One whose PARK waited for the step boundary starts to park, and without a place in
the silo the PARK ends with MB_NOSPACE (R299). -/
def berthReady (b : Nat) (s : State) : State :=
  match s.berth b with
  | none => s
  | some x =>
    let y := { x with st := .ready, slot := none, since := s.now, held := 0 }
    let s := s.setBerth b y
    if x.cmd.isNone then s
    else match parkStart b y x.cmd s with
      | some t => t
      | none => endCmd b 3 0xDA s

/-! ### What the chart does to berths -/

/-- CONFIGURED (R286). -/
def setConfigured (v : Bool) (s : State) : State := s.setField (kMb 4) 1 1 (bit v)

/-- Every berth in a slot moves to READY; a PREFILL berth too (R301). -/
def slotsToReady (s : State) : State :=
  s.berthIds.foldl (fun s b =>
    match s.berth b with
    | some x => if x.st = .decode || x.st = .prefill then berthReady b s else s
    | none => s) s

/-- A cancelled berth holds its slot until its mask applies, in the tide after that of the CANCEL (R268, R296). `n` is the tide
that begins. -/
def freeMasked (n : Nat) (s : State) : State :=
  s.berthIds.foldl (fun s b =>
    match s.berth b with
    | some x =>
      if x.st = .cancelling && x.releaseAt.all (fun t => decide (t.toNat ≤ n + 1)) then s.setBerth b { x with slot := none } else s
    | none => s) s

/-- Cancelled berths whose tide has come are released (R296). -/
def releaseCancelled (n : Option Nat) (s : State) : State :=
  s.berthIds.foldl (fun s b =>
    match s.berth b with
    | some x =>
      match x.releaseAt with
      | some t => if n.all (fun m => decide (t.toNat ≤ m)) then berthEmptied b (releaseContainers b s) else s
      | none => s
    | none => s) s

/-- The chart has stopped: slots are left, the manifest is gone, cancelled berths are released (R296, R301). -/
def serveStop (s : State) : State :=
  let s := slotsToReady (releaseCancelled none s)
  setConfigured false { s with serve := { s.serve with manifest := none, former := none, rows := [] } }

/-- Berths that hold a container in a column that is disabled fail with 0x73 (R301, R353). -/
def failLost (s : State) : State :=
  s.berthIds.foldl (fun s b =>
    match s.berth b with
    | some x =>
      if x.st != .retiring && x.st != .cancelling && x.st != .failed && x.containers.any (fun c => !s.enabled (cidQuay c)) then
        berthFail b 0x73 s
      else s
    | none => s) s

/-- A cancelled berth waits for as many boundaries of the successor as it still waited for after tide `last` of its
predecessor (R296). -/
def releaseLater (last : Nat) (s : State) : State :=
  s.berthIds.foldl (fun s b =>
    match s.berth b with
    | some x => s.setBerth b { x with releaseAt := x.releaseAt.map (fun t => w64 (t.toNat - (last + 1))) }
    | none => s) s

/-- A successor starts after tide `last`: the manifest is the former chart's until a new one comes (R301). -/
def serveSwitch (last : Nat) (s : State) : State :=
  let former := match s.serve.manifest with
    | some m => some m
    | none => s.serve.former
  let s := { s with serve := { s.serve with former := former, manifest := none, rows := [] } }
  setConfigured false (failLost (releaseLater last s))

/-- A tide boundary of index n, as Yeweric sees it: slots and releases of R296, and the end of the step that R301 gives. -/
def serveBoundary (n : Nat) (s : State) : State :=
  let s := freeMasked n (releaseCancelled (some n) s)
  match s.serve.former with
  | some m =>
    if m.stepTides ≤ n then slotsToReady { s with serve := { s.serve with former := none } } else s
  | none => s

/-- The step that boundary n begins, if it begins one (R271). -/
def Manifest.stepAt (m : Manifest) (n : Nat) : Option Nat :=
  if m.stepOffset ≤ n && (n - m.stepOffset) % m.stepTides = 0 then some ((n - m.stepOffset) / m.stepTides) else none

/-- Berths in a slot. -/
def State.inSlots (s : State) : Nat :=
  (s.serve.berths.filter (fun p => p.2.st = .decode || p.2.st = .prefill)).length

/-- The arming point of boundary n passes: rows of the step it begins that have not been written are late (R277). -/
def lateRows (n : Nat) (s : State) : State :=
  match s.serve.manifest.bind (fun m => m.stepAt n) with
  | some t => if s.serve.step = t then s else s.setReg (kMb 0x34) (s.reg (kMb 0x34) + w32 s.inSlots)
  | none => s

end Sys2Proof.Machine
end

