-- ==== Sys2Proof/Machine/Cranes.lean ====
section
/-! DEFINITION. Crane instructions (spec/03_cranes.md, R142 to R145). An instruction's effect on the accumulators and
the apron is made in its issue command, for the tiles that are FULL then; the scoreboard keeps every later instruction
off its operands until its entries are released (entry 13). Tiles that a stream-behind MMA waits for are loaded by
STREAM_BEHIND_TILE_LOAD. MMA_DONE ends the instruction, and raises the data fault of one that met it, so that later
instructions may have issued by then (R138 step 6, R180). -/

namespace Sys2Proof.Machine

/-! ### Elements and tiles -/

/-- The value of an element code of a format of R141 (R26, R27). -/
def decodeElem (f c : Nat) : Val :=
  match f with
  | 0 | 5 => fE4M3.decode c
  | 1 | 6 => fE5M2.decode c
  | 2 | 7 => fE3M2.decode c
  | 3 | 8 => fE2M3.decode c
  | 4 | 9 | 10 => fE2M1.decode c
  | 12 => fBF16.decode c
  | 13 => fFP16.decode c
  | _ => .fin (decide (sext c 8 < 0)) (sext c 8).natAbs 0

/-- Byte of a tile's scale area that holds the scale of column n, element k (R65). -/
def tileScaleAt (wfmt n k : Nat) : Nat :=
  if wfmt = 10 then 4 * n + k / 16 else if wfmt = 9 then 2 * n + k / 32 else n

/-- Column n of a tile image as scaled element values (R33, R65). -/
def tileColumn (wfmt : Nat) (img : List Byte) (n : Nat) : List Val :=
  let b := fmtBits wfmt
  let nb := tileK wfmt * b / 8
  let code := leNat (slice img (n * nb) nb)
  (List.range (tileK wfmt)).map (fun k =>
    let v := decodeElem wfmt (fld code (k * b) b)
    if tileScaleBytes wfmt = 0 then v
    else
      let c := leAt img (tileBytes wfmt + tileScaleAt wfmt n k) 1
      mulVal v (if wfmt = 10 then ue5m3 c else e8m0 c))

/-- The K_t activation elements of tile i of a chain, scaled (R29, R33, R64). -/
def actElems (wfmt afmt i : Nat) (row scales : List Byte) : List Val :=
  let b := fmtBits afmt
  let kt := tileK wfmt
  let nb := kt * b / 8
  let code := leNat (slice row (i * nb) nb)
  (List.range kt).map (fun k =>
    let v := decodeElem afmt (fld code (k * b) b)
    if isMx afmt then mulVal v (e8m0 (leAt scales ((i * kt + k) / 32) 1)) else v)

/-- The products of two element runs in a fresh element (R34, R36, R37). -/
def dot (a : Int) (ws xs : List Val) : AccElem :=
  (List.zip ws xs).foldl (fun e p => e.addProduct a (mulVal p.1 p.2)) AccElem.init

/-- Base of a weight-buffer slot in the byte map of the buffer (R53). -/
def slotBase (h i : Nat) : Nat := (4 * h + i) * 2304

/-- The image of a tile: element bytes, then scale bytes (R53, R54). -/
def Quay.tileImage (x : Quay) (wfmt h i : Nat) : List Byte :=
  if isWide wfmt then x.wb.read (slotBase h i) 2048 ++ x.wb.read (slotBase h (i + 1)) 2048
  else x.wb.read (slotBase h i) (tileBytes wfmt) ++ x.wb.read (slotBase h i + 2048) (tileScaleBytes wfmt)

/-- Every slot of a tile is FULL. -/
def Quay.tileFull (x : Quay) (wfmt h i : Nat) : Bool :=
  (List.range (tileSlots wfmt)).all (fun k => x.slot h (i + k) = .full)

/-- Some slot of a tile is EMPTY. -/
def Quay.tileEmpty (x : Quay) (wfmt h i : Nat) : Bool :=
  (List.range (tileSlots wfmt)).any (fun k => x.slot h (i + k) = .empty)

/-! ### Rows -/

/-- Runs of bytes read through the code, at a stride, up to the first uncorrectable codeword. -/
def readRuns (len stride : Nat) : Nat → Nat → State → State × List (List Byte) × Option Nat
  | 0, _, s => (s, [], none)
  | n + 1, a, s =>
    let r := s.readStack a len
    match r.2.2 with
    | some b => (r.1, [], some b)
    | none =>
      let t := readRuns len stride n (a + stride) r.1
      (t.1, r.2.1 :: t.2.1, t.2.2)

/-- Events of new elements in ACC_STATUS (R48). -/
def State.elemStatus (s : State) (q c : Nat) (es : List AccElem) : State :=
  s.accStatus q c (es.any (·.ovf)) (es.any (·.inx)) (es.any (·.nf))

/-- A row takes the products of one tile: overwritten with the instruction's anchor, or added (R38, R57). -/
def takeRow (q c m : Nat) (ow : Bool) (a : Int) (d : List AccElem) (s : State) : State :=
  let x := s.quay q
  let x := if ow then (x.setRow c m d).setAnchor c m a else x.setRow c m (List.zipWith AccElem.addElem (x.row c m) d)
  (s.setQuay q x).elemStatus q c d

/-- Crane and row of activation row r of a job (R64). -/
def CraneJob.place (j : CraneJob) (r : Nat) : Nat × Nat :=
  ((j.cranes.drop (r / j.rows)).headD 0, j.m0 + r % j.rows)

/-- Tile i of a job's chain, in the given slot, passes across every row (R51). -/
def tileStep (q : Nat) (j : CraneJob) (i slot : Nat) (s : State) : State :=
  let img := (s.quay q).tileImage j.wfmt j.half slot
  let cols := (List.range 64).map (tileColumn j.wfmt img)
  (List.range (j.cranes.length * j.rows)).foldl (fun s r =>
    let xs := actElems j.wfmt j.afmt i ((j.abytes.drop r).headD []) ((j.ascales.drop r).headD [])
    takeRow q (j.place r).1 (j.place r).2 (j.form = .ow && i = 0) j.anchor (cols.map (fun w => dot j.anchor w xs)) s) s

/-- The leading FULL tiles of a chain are loaded; the rest wait (R56). -/
def loadTiles (q : Nat) (j : CraneJob) : List (Nat × Nat) → State → State × List (Nat × Nat)
  | [], s => (s, [])
  | (i, slot) :: t, s =>
    if (s.quay q).tileFull j.wfmt j.half slot then loadTiles q j t (tileStep q j i slot s) else (s, (i, slot) :: t)

/-- Accumulator rows of a set of cranes become indeterminate (R56, R123). -/
def scrambleRows (q : Nat) (cs : List Nat) (m0 n : Nat) (s : State) : State :=
  let f := s.free
  let s := cs.foldl (fun s c => (List.range n).foldl (fun s i =>
    let x := s.quay q
    let k := f + (64 * c + i) * 65
    s.setQuay q ((x.setRow c (m0 + i) ((List.range 64).map (fun e => Config.freeAcc (k + e)))).setAnchor c (m0 + i)
      (Config.freeCount k))) s) s
  { s with free := f + 16640 }

/-- A crane instruction ends without effect or is abandoned: its entries are released and it leaves the cranes. -/
def dropCrane (q id : Nat) (s : State) : State :=
  let x := s.quay q
  s.setQuay q { x.release id with cranes := x.cranes.filter (fun j => j.id != id) }

/-- Condition 4 of R162 for crane instructions: every crane holds at most one, and that one waits for no tile (R163). -/
def Quay.cranesAccept (x : Quay) (cs : List Nat) : Bool :=
  cs.all (fun c =>
    let on := x.cranes.filter (fun j => j.cranes.contains c)
    decide (on.length ≤ 1) && on.all (fun j => j.waiting.isEmpty))

/-- A compute form: MMA.OW or MMA.AC (R72). -/
def CraneJob.computes (j : CraneJob) : Bool := j.form = .ow || j.form = .ac

/-- A job joins the cranes. A compute form that finds another one in progress shares clocks of CRANE_ACT with it (R73). -/
def addCrane (q : Nat) (j : CraneJob) (s : State) : State :=
  let x := s.quay q
  s.setQuay q { x with cranes := x.cranes ++ [{ j with shared := j.computes && x.cranes.any (·.computes) }] }

/-- A job that has met a data fault joins the cranes without effect: its end raises the fault, and later instructions may
issue before that (R138 step 6, R180; entry 13). -/
def addFaulted (q : Nat) (j : CraneJob) (code info : Nat) (s : State) : State :=
  addCrane q { j with waiting := [], fault := some (code, info) } s

/-! ### MMA.OW and MMA.AC -/

/-- WB_EMPTY on the slots of a chain: half in [0], the first EMPTY slot in [2:1] (R56, R184). -/
def wbEmpty (x : Quay) (h slot n : Nat) : Option Raised :=
  ((List.range n).find? (fun i => x.slot h (slot + i) = .empty)).map (fun i => (0x18, h + 2 * (slot + i)))

/-- Crane and row of the first addressed row whose anchor differs, as FAULT_INFO (R68, R184): the lowest crane, then its
lowest row, which is the model's choice where several differ (entry 103). -/
def badAnchor (x : Quay) (cs : List Nat) (m0 n : Nat) (a : Int) : Option Nat :=
  ((cs.flatMap (fun c => (List.range n).map (fun i => (c, m0 + i)))).find? (fun p => x.anchor p.1 p.2 != a)).map
    (fun p => p.1 + 4 * p.2)

/-- The job of an MMA.OW or MMA.AC word, before its activation bytes are read. -/
def mmaJob (x : Quay) (form : MmaForm) (w : W128) : CraneJob :=
  let t := chainTiles (wf w 29 2)
  { id := x.nextId, index := x.pc.toNat, word := w, form := form, cranes := csetCranes (wf w 24 3), m0 := wf w 101 6,
    rows := mcRows (wf w 27 2),
    waiting := (List.range t).map (fun i => (i, wf w 32 2 + i * tileSlots (wf w 34 4))),
    half := wf w 31 1, wfmt := wf w 34 4, afmt := wf w 38 4, abytes := [], ascales := [],
    anchor := sext (wf w 107 10) 10, fault := none, shared := false }

/-- The work of an issued MMA: step 6 of R138, the activation reads, and the tiles that are FULL. -/
def mmaRun (q : Nat) (j : CraneJob) (w : W128) (s : State) : State :=
  let n := j.cranes.length * j.rows
  let t := chainTiles (wf w 29 2)
  match (if j.form = .ac then badAnchor (s.quay q) j.cranes j.m0 j.rows j.anchor else none) with
  | some i => addFaulted q j 0x2C i s
  | none =>
    let a := readRuns (t * tileK j.wfmt * fmtBits j.afmt / 8) (wf w 57 13 * 64) n (stackAddr q 0 (wf w 44 13 * 64)) s
    let b := if isMx j.afmt then readRuns (t * tileK j.wfmt / 32) (wf w 89 12) n (stackAddr q 0 (wf w 70 19)) a.1
      else (a.1, [], none)
    match firstSome a.2.2 b.2.2 with
    | some bad =>
      let s := if a.2.2.isSome then a.1 else b.1
      addFaulted q j (ueCode bad) (memInfo bad) s
    | none =>
      let j := { j with abytes := a.2.1, ascales := b.2.1 }
      let r := loadTiles q j j.waiting b.1
      addCrane q { j with waiting := r.2 } r.1
where
  /-- the first of two findings -/
  firstSome : Option Nat → Option Nat → Option Nat
    | some a, _ => some a
    | none, b => b

/-- Step 5 of R138, the conditions of R162 and the work of an MMA.OW or MMA.AC. -/
def mmaIssue (q : Nat) (form : MmaForm) (w : W128) (s : State) : State :=
  let x := s.quay q
  let j := mmaJob x form w
  let n := j.cranes.length * j.rows
  let t := chainTiles (wf w 29 2)
  let al := (n - 1) * (wf w 57 13 * 64) + t * tileK j.wfmt * fmtBits j.afmt / 8
  let sl := (n - 1) * wf w 89 12 + t * tileK j.wfmt / 32
  match firstRaised [apronBounds (wf w 44 13 * 64) al, if isMx j.afmt then apronBounds (wf w 70 19) sl else none] with
  | some r => s.raise q (some r)
  | none =>
    let rs := [apronRegion (wf w 44 13 * 64) al false] ++
      (if isMx j.afmt then [apronRegion (wf w 70 19) sl false] else []) ++
      [halfRegion j.half false, accRegion (craneMask j.cranes) j.m0 j.rows true]
    let late := firstRaised [wbEmpty x j.half (wf w 32 2) (t * tileSlots j.wfmt), s.budget q 0 (x.cranesWith j.cranes)]
    match s.tryIssue q .cranes (wf w 42 1 = 1) rs (x.cranesAccept j.cranes) late with
    | (s, false) => s
    | (s, true) => mmaRun q j w s

/-- MMA.OW (R57, R142). -/
def execMmaOw (q : Nat) (s : State) : Res :=
  .next (seqIssue q (fun op _ => op = .mmaOw) (mmaIssue q .ow) s)

/-- MMA.AC (R57, R142). -/
def execMmaAc (q : Nat) (s : State) : Res :=
  .next (seqIssue q (fun op _ => op = .mmaAc) (mmaIssue q .ac) s)

/-! ### MMA.LDO and MMA.LDA -/

/-- Element i of an ACC128 row (R44). -/
def acc128Elem (row : List Byte) (i : Nat) : AccElem :=
  let f := leAt row 1024 24
  { a := BitVec.ofNat 128 (leAt row (16 * i) 16), ovf := bitAt f (3 * i), inx := bitAt f (3 * i + 1),
    nf := bitAt f (3 * i + 2) }

/-- The anchor of an ACC128 row (R44). -/
def acc128Anchor (anchorBytes : List Byte) : Int := sext (leNat anchorBytes) 16

/-- One loaded row (R45, R57). -/
def loadRow (q c m : Nat) (ow : Bool) (a : Int) (row : List Byte) (s : State) : State :=
  let es := (List.range 64).map (acc128Elem row)
  let x := s.quay q
  if ow then s.setQuay q ((x.setRow c m es).setAnchor c m a)
  else
    (s.setQuay q (x.setRow c m (List.zipWith AccElem.addElem (x.row c m) es))).accStatus q c (es.any (·.ovf)) false false

/-- The job of a load or drain word. -/
def rowJob (x : Quay) (form : MmaForm) (w : W128) : CraneJob :=
  { id := x.nextId, index := x.pc.toNat, word := w, form := form, cranes := [wf w 24 2], m0 := wf w 26 6, rows := wf w 32 6 + 1,
    waiting := [], half := 0, wfmt := 0, afmt := 0, abytes := [], ascales := [], anchor := sext (wf w 70 10) 10,
    fault := none, shared := false }

/-- FAULT_INFO of the first row whose loaded anchor, or for an accumulate-load whose row anchor, differs (R45, R68). -/
def badLoad (x : Quay) (j : CraneJob) (anchors : List (List Byte)) : Option Nat :=
  let c := j.cranes.headD 0
  (((List.range j.rows).zip anchors).find? (fun p =>
    acc128Anchor p.2 != j.anchor || (j.form = .lda && x.anchor c (j.m0 + p.1) != j.anchor))).map
    (fun p => c + 4 * (j.m0 + p.1))

/-- The work of an issued load form: the anchors of every row first, then the rows in order (R144). -/
def loadRun (q : Nat) (j : CraneJob) (w : W128) (s : State) : State :=
  let base := stackAddr q 0 (wf w 44 13 * 64)
  let str := wf w 57 13 * 64
  let c := j.cranes.headD 0
  let a := readRuns 2 str j.rows (base + 1048) s
  match a.2.2 with
  | some bad => addFaulted q j (ueCode bad) (memInfo bad) a.1
  | none =>
    match badLoad (a.1.quay q) j a.2.1 with
    | some i => addFaulted q j 0x2C i a.1
    | none =>
      let r := readRuns 1056 str j.rows base a.1
      match r.2.2 with
      | some bad => addFaulted q j (ueCode bad) (memInfo bad) r.1
      | none =>
        addCrane q j (((List.range j.rows).zip r.2.1).foldl (fun s p =>
          loadRow q c (j.m0 + p.1) (j.form = .ldo) j.anchor p.2 s) r.1)

/-- Step 5, the conditions of R162 and the work of a load form. -/
def loadIssue (q : Nat) (form : MmaForm) (w : W128) (s : State) : State :=
  let x := s.quay q
  let j := rowJob x form w
  let len := (j.rows - 1) * (wf w 57 13 * 64) + 1056
  match apronBounds (wf w 44 13 * 64) len with
  | some r => s.raise q (some r)
  | none =>
    let rs := [apronRegion (wf w 44 13 * 64) len false, accRegion (craneMask j.cranes) j.m0 j.rows true]
    match s.tryIssue q .cranes false rs (x.cranesAccept j.cranes) (s.budget q 0 (x.cranesWith j.cranes)) with
    | (s, false) => s
    | (s, true) => loadRun q j w s

/-- MMA.LDO (R57, R144). -/
def execMmaLdo (q : Nat) (s : State) : Res :=
  .next (seqIssue q (fun op _ => op = .mmaLdo) (loadIssue q .ldo) s)

/-- MMA.LDA (R45, R57, R144). -/
def execMmaLda (q : Nat) (s : State) : Res :=
  .next (seqIssue q (fun op _ => op = .mmaLda) (loadIssue q .lda) s)

/-! ### MMA.DR -/

/-- The scale operands of a conversion: T, and the arrays r and c where present (R81, R145). -/
structure Scales where
  t : W32
  rAt : Option Nat
  cAt : Option Nat
deriving DecidableEq, Repr

/-- A scale block's first 12 bytes (R81). -/
def scalesOf (blk : List Byte) : Scales :=
  let at' := fun (o : Nat) => if leAt blk o 4 = 0xFFFFFFFF then none else some (leAt blk o 4)
  { t := w32 (leAt blk 0 4), rAt := at' 4, cAt := at' 8 }

/-- A scale is NaN or infinite. -/
def nonFinite (v : Val) : Bool :=
  match v with
  | .fin _ _ _ => false
  | _ => true

/-- Conversion of a value to a target of R145: code and CVO (R41, R42). -/
def convertTo (t rmode : Nat) (sat : Bool) (v : Val) : Nat × Bool :=
  let mode := if rmode = 0 then RMode.rne else if rmode = 1 then .rtz else .odd
  let f := if t = 0 then fFP32 else if t = 1 then fBF16 else if t = 2 then fFP16 else if t = 3 then fE4M3 else fE5M2
  if t = 5 then
    match v with
    | .fin neg m e => convInt8 mode neg m e
    | _ => (0x80, false)
  else f.convert mode sat v

/-- Element bytes of a drain target. -/
def targetBytes (t : Nat) : Nat := if t = 0 then 4 else if t ≤ 2 then 2 else 1

/-- The code of a trap that some addressed element raises, and its FAULT_INFO; ACC_OVF first (R49, R50). Where several rows
hold such an element the lowest is named, which is the model's choice (entry 103). -/
def trapOf (s : State) (q c m0 n col ncol : Nat) : Option Raised :=
  let x := s.quay q
  let rows := (List.range n).map (fun i => m0 + i)
  let hit := fun (p : AccElem → Bool) =>
    rows.find? (fun m => (List.range ncol).any (fun i => p (x.elem c m (col + i))))
  let ov := if s.fieldAt (qkey q 0x184) 0 1 = 1 then (hit (·.ovf)).map (fun m => (0x2D, c + 4 * m)) else none
  let nf := if s.fieldAt (qkey q 0x184) 1 1 = 1 then (hit (·.nf)).map (fun m => (0x2E, c + 4 * m)) else none
  firstRaised [ov, nf]

/-- A row in the ACC128 layout (R44, R145). -/
def acc128Row (es : List AccElem) (anchor : Int) : List Byte :=
  let flags := es.foldr (fun e n => 8 * n + bit e.ovf + 2 * bit e.inx + 4 * bit e.nf) 0
  (es.map (fun e => leBytes 16 e.a.toNat)).flatten ++ leBytes 24 flags ++ leBytes 2 (wrap anchor 16) ++ leBytes 6 0

/-- A converted row with its CVO and non-finite-scale events (R40 to R42, R48). -/
def drainRow (t rmode : Nat) (sat : Bool) (es : List AccElem) (anchor : Int) (tv rv : Val) (cs : List Val) :
    List Byte × Bool × Bool :=
  let codes := (es.zip cs).map (fun p => convertTo t rmode sat (p.1.value anchor tv rv p.2))
  ((codes.map (fun c => leBytes (targetBytes t) c.1)).flatten, codes.any (·.2),
    nonFinite tv || nonFinite rv || cs.any nonFinite)

/-- The exact value 1. -/
def vOne : Val := .fin false 1 0

/-- The value of entry i of an FP32 array, 1 where the array is absent. -/
def arrVal (present : Bool) (bs : List Byte) (i : Nat) : Val :=
  if present then fval (w32 (leAt bs (4 * i) 4)) else vOne

/-- The rows of a drain are converted and written in order (R66). -/
def drainRows (q : Nat) (w : W128) (j : CraneJob) (sc : Scales) (ra ca : List Byte) (s : State) : State :=
  let c := j.cranes.headD 0
  let t := wf w 38 3
  (List.range j.rows).foldl (fun s i =>
    let x := s.quay q
    let m := j.m0 + i
    let dst := stackAddr q 0 (wf w 44 13 * 64 + i * (wf w 57 13 * 64))
    if t = 6 then s.writeStack dst (acc128Row (x.row c m) (x.anchor c m))
    else
      let cs := (List.range 64).map (arrVal sc.cAt.isSome ca)
      let r := drainRow t (wf w 41 2) (wf w 43 1 = 1) (x.row c m) (x.anchor c m) (fval sc.t) (arrVal sc.rAt.isSome ra i) cs
      (s.writeStack dst r.1).convStatus q c r.2.1 r.2.2) s

/-- Scales of a drain without a scale block. -/
def noScales : Scales := { t := fOne, rAt := none, cAt := none }

/-- Reads of n bytes of the quay's apron at an optional address. -/
def readOpt (q : Nat) (a : Option Nat) (n : Nat) (s : State) : State × List Byte × Option Nat :=
  match a with
  | none => (s, [], none)
  | some a => s.readStack (stackAddr q 0 a) n

/-- The work of an issued drain: the traps, the scale operands, then the rows (R50, R145). -/
def drainRun (q : Nat) (w : W128) (j : CraneJob) (s : State) : State :=
  match trapOf s q (j.cranes.headD 0) j.m0 j.rows 0 64 with
  | some (code, i) => addFaulted q j code i s
  | none =>
    let b := readOpt q (if wf w 83 1 = 1 then some (wf w 70 13 * 64) else none) 12 s
    match b.2.2 with
    | some bad => addFaulted q j (ueCode bad) (memInfo bad) b.1
    | none =>
      let sc := if wf w 83 1 = 1 then scalesOf b.2.1 else noScales
      let r := readOpt q (sc.rAt.map (· + 4 * j.m0)) (4 * j.rows) b.1
      match r.2.2 with
      | some bad => addFaulted q j (ueCode bad) (memInfo bad) r.1
      | none =>
        let c := readOpt q sc.cAt 256 r.1
        match c.2.2 with
        | some bad => addFaulted q j (ueCode bad) (memInfo bad) c.1
        | none => addCrane q j (drainRows q w j sc r.2.1 c.2.1 c.1)

/-- Step 5, the conditions of R162 and the work of MMA.DR. The arrays lie at addresses in the scale block, so they are
checked once no live entry writes it (R139, R145). -/
def drainIssue (q : Nat) (w : W128) (s : State) : State :=
  let x := s.quay q
  let j := rowJob x .dr w
  let dst := wf w 44 13 * 64
  let len := (j.rows - 1) * (wf w 57 13 * 64) + drainRowBytes (wf w 38 3)
  let sen := wf w 83 1 = 1
  let sp := wf w 70 13 * 64
  let base := [accRegion (craneMask j.cranes) j.m0 j.rows false, apronRegion dst len true]
  match firstRaised [apronBounds dst len, if sen then apronBounds sp 64 else none] with
  | some r => s.raise q (some r)
  | none =>
    if sen && anyConflict x .cranes false [apronRegion sp 64 false] then s.stalled q .conf
    else
      let sc := if sen then scalesOf (s.apron q sp 12) else noScales
      let ra := sc.rAt.map (· + 4 * j.m0)
      match firstRaised [ra.bind (fun a => apronBounds a (4 * j.rows)), sc.cAt.bind (fun a => apronBounds a 256)] with
      | some r => s.raise q (some r)
      | none =>
        let rs := base ++ (if sen then [apronRegion sp 64 false] else []) ++
          (ra.toList.map (fun a => apronRegion a (4 * j.rows) false)) ++
          (sc.cAt.toList.map (fun a => apronRegion a 256 false))
        match s.tryIssue q .cranes false rs (x.cranesAccept j.cranes) (s.budget q 0 (x.cranesWith j.cranes)) with
        | (s, false) => s
        | (s, true) => drainRun q w j s

/-- MMA.DR (R57, R66, R145). -/
def execMmaDr (q : Nat) (s : State) : Res :=
  .next (seqIssue q (fun op _ => op = .mmaDr) (drainIssue q) s)

/-! ### Events -/

/-- The first job on a crane. -/
def Quay.craneHead (x : Quay) (crane : Nat) : Option CraneJob := x.cranes.find? (fun j => j.cranes.contains crane)

/-- A job replaced by its serial. -/
def putCrane (q : Nat) (j : CraneJob) (s : State) : State :=
  let x := s.quay q
  s.setQuay q { x with cranes := x.cranes.map (fun k => if k.id = j.id then j else k) }

/-- A started fill of half h covers slot i: its slots up to i have completed, for slots fill in ascending order (R54, R56). -/
def Quay.slotsDone (x : Quay) (h i : Nat) : Quay :=
  match (x.gant0 ++ x.gant1 ++ x.moving0 ++ x.moving1).find? (fun j =>
      j.started && !j.failed && j.fill.any (fun f => f.1 = h && f.2.1 ≤ i && decide (i < f.2.1 + f.2.2))) with
  | some j =>
    let from' := (j.fill.map (·.2.1)).getD 0
    (List.range (i + 1 - from')).foldl (fun x k => x.setSlot h (from' + k) .full) x
  | none => x

/-- The tile load that a stream-behind MMA waits for starts: the slot it waited on has become FULL, and the FULL tiles
after it load too. A slot that returned to EMPTY abandons the MMA. The weight half is released after the last load
(R56). -/
def execStreamBehindTileLoad (q crane : Nat) (s : State) : Res :=
  .next (let x := s.quay q
    match x.cranes.find? (fun j => j.cranes.contains crane && !j.waiting.isEmpty) with
    | none => s
    | some j =>
      let slot := (j.waiting.headD (0, 0)).2
      if x.tileEmpty j.wfmt j.half slot then
        dropCrane q j.id (scrambleRows q j.cranes j.m0 j.rows s)
      else
        let s := s.setQuay q (x.slotsDone j.half (slot + tileSlots j.wfmt - 1))
        let r := loadTiles q j j.waiting s
        let s := putCrane q { j with waiting := r.2 } r.1
        if r.2.isEmpty then s.setQuay q ((s.quay q).releaseIf j.id (fun g => g.kind = .half)) else s)

/-- Compute clocks of an MMA.OW or MMA.AC, in qclk: t × M_c × w (R51, R60, R61). -/
def CraneJob.clocks (j : CraneJob) : Nat :=
  chainTiles (wf j.word 29 2) * j.rows * (if isWide j.wfmt then 4 else 1)

/-- The job reads its accumulator rows as an MMA: an accumulate form, a chain of more than one tile, or an accumulate-load
(R70). -/
def CraneJob.readsAcc (j : CraneJob) : Bool :=
  j.form = .ac || j.form = .lda || (j.form = .ow && decide (1 < chainTiles (wf j.word 29 2)))

/-- The qclk of each cause of R71 but FRZ_WB that a job's time held, by counter: FRZ_ACT for a job that reads activations or
a row of the apron by the activation lanes, FRZ_ACCP for one that reads accumulators as an MMA, FRZ_DRAIN for a drain. Bank
traffic and arbitration decide them (entry 3). -/
def CraneJob.freezes (j : CraneJob) (f i : Nat) : Nat :=
  let may := if i = 2 then j.form != .dr else if i = 3 then j.readsAcc else j.form = .dr
  if may then Config.freeCount (f + i) else 0

/-- The counters of R73 at the end of a crane instruction: each cause that its form can have, FRZ_ANY by at least the longest
of them and at most their sum, and CRANE_ACT by the compute clocks, of which a job that ran beside another compute form may
share some with it. FRZ_WB and its part of FRZ_ANY count as time passes (R56). -/
def craneCounts (q : Nat) (j : CraneJob) (s : State) : State :=
  let f := s.free
  let a := j.freezes f 2
  let p := j.freezes f 3
  let d := j.freezes f 4
  let top := max a (max p d)
  let any' := top + Config.freeCount f % (a + p + d - top + 1)
  let n := if j.computes then j.clocks else 0
  let act := if j.shared then Config.freeCount (f + 5) % (n + 1) else n
  let s := (((s.craneCount q 2 a).craneCount q 3 p).craneCount q 4 d).craneCount q 0 any'
  { s.craneCount q 5 act with free := f + 6 }

/-- What an instruction was writing when it met an uncorrectable codeword is indeterminate: its accumulator rows, or the
destination rows of a drain (R123). -/
def craneScramble (q : Nat) (j : CraneJob) (s : State) : State :=
  if j.form = .dr then
    (List.range j.rows).foldl (fun s i =>
      s.scrambleStack (stackAddr q 0 (wf j.word 44 13 * 64 + i * (wf j.word 57 13 * 64))) (drainRowBytes (wf j.word 38 3))) s
  else scrambleRows q j.cranes j.m0 j.rows s

/-- A job that met a data fault ends in it (R123, R138 step 6, R180): PRECISE only if no later instruction has issued. -/
def endFaulted (q : Nat) (j : CraneJob) (code info : Nat) (s : State) : State :=
  let s := s.dataFault q j.id j.index code info
  dropCrane q j.id (if 0x70 ≤ code then craneScramble q j s else s)

/-- MMA_DONE: the crane's first instruction, which is the first on each of its cranes (R63), has written its last row, or
meets its data fault; its entries are released (R169). -/
def execMmaDone (q crane : Nat) (s : State) : Res :=
  .next (match (s.quay q).craneHead crane with
    | none => s
    | some j =>
      if !j.waiting.isEmpty || j.cranes.any (fun c => ((s.quay q).craneHead c).any (fun k => k.id != j.id)) then s
      else match j.fault with
        | some (code, info) => endFaulted q j code info s
        | none => craneCounts q j (dropCrane q j.id s))

end Sys2Proof.Machine
end

