-- ==== Sys2Proof/Machine/Mesh.lean ====
section
/-! DEFINITION. The mesh: attached routers, dimension-ordered paths with the bypasses of R17, and the PORT_DIST
registers (spec/01_harbour_layout.md). -/

namespace Sys2Proof.Machine

/-- Quay position of the router that port p is attached to (R15). -/
def portRouter (p : Nat) : Nat :=
  ([1, 4, 7, 10, 23, 59, 95, 131, 142, 139, 136, 133, 120, 84, 48, 12].drop p).headD 0

/-- Corner of the pilot core that a packet comes from or goes to: 0 for cores 0 to 3, 11 for cores 4 to 7 (R18). Which core
handles which packet is the firmware's choice: free by TAG (entry 3). -/
def pilotRouter (tag : W32) : Nat := if Config.pilotSide tag then 11 else 0

/-- Corner of host DMA and of the PCIe controller, and of the silo controller (R18). -/
def hostRouter : Nat := 132
/-- See `hostRouter`. -/
def siloRouter : Nat := 143

/-- Quay position of a LOCAL unit other than the stack: pilots, host DMA, silo (R18). -/
def unitRouter (u : Nat) (tag : W32) : Nat := if u = 1 then pilotRouter tag else if u = 2 then hostRouter else siloRouter

/-- Positions from a (left out) to b along a line. -/
def stepsTo (a b : Nat) : List Nat :=
  if a ≤ b then (List.range (b - a)).map (fun i => a + 1 + i) else (List.range (a - b)).map (fun i => a - 1 - i)

/-- A router that exists and is not bad (R17); positions are offset by 12 so that they never fall below zero. -/
def goodAt (bad : BitVec 144) (r c : Nat) : Bool :=
  12 ≤ r && r < 24 && 12 ≤ c && c < 24 && !bad.getLsbD ((r - 12) * 12 + (c - 12))

/-- A position moved by d to a side: south or east with `fwd`, else north or west. -/
def shiftBy (x d : Nat) (fwd : Bool) : Nat := if fwd then x + d else x - d

/-- A straight bypass on the line d positions out is free: the routers beside the run and its two ends, and the ways
out and back (R17). -/
def lineFree (bad : BitVec 144) (rowSeg : Bool) (nodes : List (Nat × Nat)) (d : Nat) (fwd : Bool) : Bool :=
  let at' := fun (n : Nat × Nat) (k : Nat) =>
    if rowSeg then goodAt bad (shiftBy n.1 k fwd) n.2 else goodAt bad n.1 (shiftBy n.2 k fwd)
  let ends := nodes.take 1 ++ (nodes.drop (nodes.length - 1))
  nodes.all (fun n => at' n d) && ends.all (fun n => (List.range d).all (fun k => k = 0 || at' n k))

/-- The first free line of a straight bypass: preferred side, then the other, then farther out (R17). -/
def straightLine (bad : BitVec 144) (rowSeg fwd : Bool) (nodes : List (Nat × Nat)) : Option Nat :=
  (List.range 11).find? (fun k => lineFree bad rowSeg nodes (k + 1) fwd || lineFree bad rowSeg nodes (k + 1) (!fwd)) |>.map (· + 1)

/-- A turn into column c on row ra, along it to row tr, then along that row to column cb, uses only good routers. -/
def turnFree (bad : BitVec 144) (ra tr cb c : Nat) : Bool :=
  (ra :: stepsTo ra tr).all (fun r => goodAt bad r c) && (stepsTo c cb).all (fun x => goodAt bad tr x)

/-- The path from index i on: hops added and whether a bad router was bypassed; none where no way is found (R17). A turn
bypass that turns farther back than an earlier straight bypass keeps that one's 2 hops, and the source's own column is tried
last: the model's choices (entry 104). -/
def walkPath (bad : BitVec 144) (ra ca cb tix : Nat) (path : List (Nat × Nat)) : Nat → Nat → Nat × Nat → Nat → Bool →
    Option (Nat × Bool)
  | 0, _, _, h, d => some (h, d)
  | fuel + 1, i, prev, h, d =>
    match (path.drop i).head? with
    | none => some (h, d)
    | some n =>
      if goodAt bad n.1 n.2 then walkPath bad ra ca cb tix path fuel (i + 1) n h d
      else
        let run := (path.drop i).takeWhile (fun m => !goodAt bad m.1 m.2)
        let j := i + run.length
        let beyond := (path.drop j).headD prev
        if i < tix && tix ≤ j then
          if (prev.2 :: stepsTo prev.2 ca).any (turnFree bad ra beyond.1 cb) then
            walkPath bad ra ca cb tix path fuel (j + 1) beyond h true
          else none
        else
          let rowSeg := decide (i < tix)
          let fwd := if rowSeg then ra != 23 else cb != 23
          match straightLine bad rowSeg fwd (prev :: run ++ [beyond]) with
          | some k => walkPath bad ra ca cb tix path fuel (j + 1) beyond (h + 2 * k) true
          | none => none

/-- Hops from one quay position to another, and whether the path bypasses a bad router; none where an end router is bad
or the pair is unroutable (R17, R19). -/
def meshHops (bad : BitVec 144) (a b : Nat) : Option (Nat × Bool) :=
  if bad.getLsbD a || bad.getLsbD b then none
  else
    let ra := a / 12 + 12
    let ca := a % 12 + 12
    let rb := b / 12 + 12
    let cb := b % 12 + 12
    let path := (stepsTo ca cb).map (fun c => (ra, c)) ++ (stepsTo ra rb).map (fun r => (r, cb))
    walkPath bad ra ca cb (stepsTo ca cb).length path 24 0 (ra, ca) path.length false

/-- A pair of routers that mesh traffic can join. -/
def State.routable (s : State) (a b : Nat) : Bool := (meshHops s.rbad a b).isSome

/-! ### Starts inside the module (R17, R18, R226) -/

/-- A packet starts at a quay position, or at the controller of port p, coded 144 + p: from there another port is reached over
the transit ring, which never enters the mesh (R226). -/
def atPort (p : Nat) : Nat := 144 + p

/-- The router through which a start enters the mesh. -/
def meshEntry (pos : Nat) : Nat := if 144 ≤ pos then portRouter (pos - 144) else pos

/-- A start reaches a quay position over the mesh (R17). -/
def State.reaches (s : State) (pos b : Nat) : Bool := s.routable (meshEntry pos) b

/-- A start reaches a port: over the ring, or over the mesh to the port's router (R17, R226). -/
def State.reachesPort (s : State) (pos p : Nat) : Bool := decide (144 ≤ pos) || s.routable pos (portRouter p)

/-- The stops of the transit ring after port a up to port b: the shorter way round, clockwise at 8 stops (R226). The path
depends on the two ports alone. -/
def ringStops (a b : Nat) : List Nat :=
  let n := (b + 16 - a) % 16
  if n ≤ 8 then (List.range n).map (fun i => (a + i + 1) % 16)
  else (List.range (16 - n)).map (fun i => (a + 15 - i) % 16)

/-- Both directions are productive from one position to another: the positions differ in row and in column (R19). -/
def twoWays (a b : Nat) : Bool := a / 12 != b / 12 && a % 12 != b % 12

/-- Mesh traffic of a data VC from one position to another: with Stillwater clear and the chart's adaptive-mesh field set, free
credits decide whether it leaves dimension order, which is a tide-variance source (R19, R197, entry 3). -/
def meshAdapt (data : Bool) (a b : Nat) (s : State) : State :=
  if data && s.fabric.adaptMesh && !s.stillwater && twoWays a b then
    let f := s.free
    (if Config.freeBool f then s.variance 4 else s).useFree
  else s

/-- A port is disabled by the map or by the bad router it is attached to (R17, R350). -/
def State.portDead (s : State) (p : Nat) : Bool := s.pbad.getLsbD p || s.rbad.getLsbD (portRouter p)

/-- One byte of a PORT_DIST register (R21). While VALIDj is 0 the whole byte reads 0: the spec says only that HOPSj and DETOURj
are not valid then, so their 0 is the model's choice (entry 104). -/
def State.portDistByte (s : State) (q p : Nat) : Nat :=
  if !s.distValid || !s.enabled q || s.portDead p then 0
  else match meshHops s.rbad q (portRouter p) with
    | none => 0
    | some (h, d) => 128 + 32 * bit d + min h 31

/-- PORT_DIST_q_k (R21). -/
def State.portDist (s : State) (q k : Nat) : W32 :=
  w32 (leNat ((List.range 4).map (fun j => BitVec.ofNat 8 (s.portDistByte q (4 * k + j)))))

end Sys2Proof.Machine
end

