-- ==== Sys2Proof/Machine/Packets.lean ====
section
/-! DEFINITION. Packets: their bytes and check values, the header checks of R260, the route table, the link credits and
queues of a port, and the sending of a packet from a unit of the module (R239 to R252, R260, R264). -/

namespace Sys2Proof

open Sys2Proof.Machine

/-! ### Bytes and check values (R239, R241, R242) -/

/-- Base-header bytes 0 to 27. -/
def Packet.header (k : Packet) : List Byte :=
  leBytes 1 (k.typ.toNat + 16 * k.vc.toNat + 128 * bit k.e2e) ++ leBytes 1 (k.nrh.toNat + 8 * k.hops.toNat) ++
  leBytes 2 k.dst.toNat ++ leBytes 2 k.src.toNat ++ [k.sunit, k.plen] ++ leBytes 2 k.tlen.toNat ++
  leBytes 1 (k.rcnt.toNat + 16 * k.rsv10.toNat) ++ [k.arg] ++ leBytes 4 k.tag.toNat ++ leBytes 4 k.raddr.toNat ++
  leBytes 8 k.ts.toNat

/-- The payload as PLEN says. -/
def Packet.body (k : Packet) : List Byte := slice k.payload 0 (64 * k.plen.toNat)

/-- ECRC: base-header bytes 2 to 7 and 10 to 19, then the payload (R242). -/
def Packet.ecrcOf (k : Packet) : W32 :=
  crc32c (slice k.header 2 6 ++ slice k.header 10 10 ++ k.body)

/-- Bytes 0 to 11 of a nested route header (R241). -/
def RouteHdr.bytes (h : RouteHdr) : List Byte := leBytes 2 h.eid.toNat ++ leBytes 10 h.rsv.toNat

/-- The bytes of a packet on the wire. -/
def Packet.bytes (k : Packet) : List Byte :=
  k.header ++ leBytes 4 k.hcrc.toNat ++
  (k.rhs.map (fun h => RouteHdr.bytes h ++ leBytes 4 h.crc.toNat)).flatten ++ k.body ++
  (if k.e2e then
    match k.trailer with
    | some t => leBytes 4 t.ecrc.toNat ++ leBytes 4 t.rsv.toNat
    | none => leBytes 8 0
   else [])

/-- TLEN by R240. -/
def Packet.length (k : Packet) : Nat := 32 + 16 * k.nrh.toNat + 64 * k.plen.toNat + 8 * bit k.e2e

/-- A packet with TLEN and HCRC as its fields require (R240, R241). -/
def Packet.sealed (k : Packet) : Packet :=
  let k := { k with tlen := BitVec.ofNat 16 k.length, rxLen := k.length }
  { k with hcrc := crc32c k.header }

/-- A packet with the end-to-end trailer (R242, R250). -/
def Packet.withTrailer (k : Packet) : Packet :=
  if k.e2e then k else { k with e2e := true, trailer := some { ecrc := k.ecrcOf, rsv := 0 } }

/-- The EID by which a packet is routed (R241). -/
def Packet.routingEid (k : Packet) : W16 := if k.nrh = 0 then k.dst else (k.rhs.headD { eid := k.dst, rsv := 0, crc := 0 }).eid

/-- The outermost route header removed (R241). -/
def Packet.popped (k : Packet) : Packet := { k with nrh := k.nrh - 1, rhs := k.rhs.drop 1 }

/-- A waypoint pushed as the new outermost header (R241). -/
def Packet.pushed (k : Packet) (eid : W16) : Packet :=
  let h : RouteHdr := { eid := eid, rsv := 0, crc := 0 }
  { k with nrh := k.nrh + 1, rhs := { h with crc := crc32c (RouteHdr.bytes h) } :: k.rhs }

/-! ### Header checks (R260, cases 1 to 4) -/

/-- Case 1: HCRC, or the CRC of a route header that is parsed. -/
def Packet.crcBad (k : Packet) : Bool :=
  k.hcrc != crc32c k.header ||
  (k.nrh.toNat ≤ 3 &&
    (k.rhs.length < k.nrh.toNat || (k.rhs.take k.nrh.toNat).any (fun h => h.crc != crc32c (RouteHdr.bytes h))))

/-- Case 3: contradictory lengths (R240, R260). -/
def Packet.lenBad (k : Packet) : Bool :=
  k.tlen.toNat != k.length || (if k.vc = 4 then 4 else 64) < k.plen.toNat || k.rxLen != k.tlen.toNat

/-- PLEN, ARG and RADDR as the type table of R239 and R248 allow. -/
def Packet.typeOk (k : Packet) : Bool :=
  match k.typ.toNat with
  | 1 => k.arg = 0
  | 2 => k.plen = 0 && k.arg.toNat ≤ 63
  | 3 => k.plen != 0 && k.arg.toNat ≤ 63 && k.raddr = 0
  | 4 => 1 ≤ k.arg.toNat && k.arg.toNat ≤ 16 && k.plen.toNat = (if k.arg.toNat = 1 then 0 else 1) && k.raddr = 0
  | 5 => k.plen = 0 && fld k.raddr.toNat 16 16 = 0
  | 6 | 7 => k.plen = 0 && k.arg = 0 && fld k.raddr.toNat 20 12 = 0
  | 8 => (k.arg = 1 && k.plen = 0 && k.raddr = 0) || 128 ≤ k.arg.toNat
  | _ => false

/-- Case 4: a reserved type, VC, unit or field, or a breach of R246. -/
def Packet.fieldBad (k : Packet) : Bool :=
  !k.typeOk || 4 < k.vc.toNat || k.rsv10 != 0 || !(k.sunit.toNat < 144 || (0xF0 ≤ k.sunit.toNat && k.sunit.toNat ≤ 0xF2)) ||
  (decide (k.vc = 4) != decide (4 ≤ k.typ.toNat)) || (k.rcnt != 0 && k.typ != 1) ||
  (k.rhs.take k.nrh.toNat).any (fun h => h.rsv != 0) || (k.e2e && k.trailer.any (fun t => t.rsv != 0))

/-- The first of cases 1 to 4 that holds. -/
def Packet.headerCase (k : Packet) : Option Nat :=
  if k.crcBad then some 0x48
  else if 4 ≤ k.nrh.toNat then some 0x46
  else if k.lenBad then some 0x47
  else if k.fieldBad then some 0x49
  else none

/-- Credits a packet needs (R244). -/
def Packet.need (k : Packet) : Nat := ceilDiv k.tlen.toNat 256

/-- Quay position of a source unit: a quay, the pilot cores, host DMA or the silo controller (R18, R239). -/
def Packet.origin (k : Packet) : Nat :=
  let n := k.sunit.toNat
  if n < 144 then n else if n = 0xF1 then hostRouter else if n = 0xF2 then siloRouter else pilotRouter k.tag

/-- Quay position that serves a packet delivered to a unit: the quay of RADDR for a packet to the stack, the source unit for
an answer (R18, R250). -/
def Packet.position (k : Packet) (u : Nat) : Nat :=
  if k.typ = 3 || k.typ = 4 || k.typ = 5 then k.origin
  else if u = 0 then fld k.raddr.toNat 24 8
  else unitRouter u k.tag

/-- A packet acts where it enters the module and crosses no mesh: QUENCH and UNQUENCH at the ingress (R247), a WAKE, and a
packet for the stack whose RADDR names no quay position, which is dropped (R260). -/
def Packet.actsAtIngress (k : Packet) (u : Nat) : Bool :=
  k.typ = 6 || k.typ = 7 || (k.typ = 8 && k.arg = 1) || decide (144 ≤ k.position u)

end Sys2Proof

namespace Sys2Proof.Machine

/-! ### Counters and log (R264) -/

/-- A register of the route-register block. -/
def kFab (o : Nat) : Nat := 0x500000 + o

/-- One of the eight fabric counters advances: 0 DROP_HDR, 1 DROP_CRC, 2 NACK_TX, 3 NACK_RX, 4 LOST, 5 LATE_ACK, 6 DUP_RX,
7 STRANDED. -/
def State.fabCount (s : State) (i : Nat) : State := s.count (kFab 0x70) (kFab (0x30 + 8 * i)) 1

/-- A FAB_STATUS bit is set. -/
def State.fabStatus (s : State) (b : Nat) : State := s.orReg (kFab 4) (2 ^ b)

/-- An entry reaches FLOG, or is lost with LOG_OVF while the FIFO is full: KIND 0 dropped here, 1 NACK received, 2 other. -/
def State.flogPush (s : State) (kind code : Nat) (eid : W16) (tag : W32) : State :=
  if s.fabLog.length < 16 then
    let e : LogEntry := { ts := s.now, w2 := w32 (2 ^ 31 + kind * 2 ^ 29 + code * 2 ^ 16 + eid.toNat), w3 := tag }
    (({ s with fabLog := s.fabLog ++ [e] }).trace 4 code 0xFFFF (logWords e)).note 162
  else s.fabStatus 5

/-- The end-to-end regime is in force (R259). -/
def State.e2eMode (s : State) : Bool := s.fieldAt (kFab 0) 0 1 = 1

/-- Home EID of the module: that of the last chart load, 0 before one (entry 14). -/
def State.homeEid (s : State) : W16 := s.fabric.home

/-- The completion timeout in ns: that of the last chart load, 20 µs before one (R208, R253). -/
def State.cto (s : State) : Nat := 1000 * s.fabric.cto

/-! ### Routes (R249) -/

/-- The route entry of an EID. -/
def State.route (s : State) (eid : W16) : Route := tabGet s.fabric.routes eid.toNat Route.init
/-- KIND: 0 UNASSIGNED, 1 FORWARD, 2 LOCAL, 3 MCAST. -/
def Route.kind (r : Route) : Nat := fld r.w0.toNat 0 2
/-- PRIMARY. -/
def Route.primary (r : Route) : Nat := fld r.w0.toNat 2 4
/-- DETOUR, where DET_EN is set. -/
def Route.detour (r : Route) : Option Nat := if bitAt r.w0.toNat 10 then some (fld r.w0.toNat 6 4) else none
/-- The waypoint that a detour pushes, where WP_EN is set. -/
def Route.waypoint (r : Route) : Option W16 := if bitAt r.w0.toNat 11 then some r.w1 else none
/-- ADAPT; an entry with DET_EN 0 or WP_EN 1 routes as though it were 0. -/
def Route.adapt (r : Route) : Bool := bitAt r.w0.toNat 12 && r.detour.isSome && r.waypoint.isNone
/-- UNIT of a LOCAL entry. -/
def Route.unit (r : Route) : Nat := fld r.w0.toNat 13 3

/-! ### Links (R225, R243 to R245, R250, R251) -/

/-- The ports of the group that p leads, or p alone (R225). -/
def State.members (s : State) (p : Nat) : List Nat :=
  (List.range (s.fieldAt (pkey p 0) 4 2 + 1)).map (fun i => (p + i) % 16)

/-- Members of a group that are UP. -/
def State.upMembers (s : State) (p : Nat) : List Nat := (s.members p).filter (fun m => (s.port m).st = .up)

/-- The link led by port p is UP. -/
def State.linkUp (s : State) (p : Nat) : Bool := !(s.upMembers p).isEmpty

/-- Credits a port holds for a VC. -/
def Port.credit (x : Port) (vc : Nat) : Nat := tabGet x.credits vc 0

/-- Free credits of a link for a VC. -/
def State.linkCredits (s : State) (p vc : Nat) : Nat := ((s.upMembers p).map (fun m => (s.port m).credit vc)).sum

/-- Bytes of a VC that wait in a port's egress queue (R251). -/
def Port.queued (x : Port) (vc : BitVec 3) : Nat := ((x.egress.filter (·.vc = vc)).map (·.tlen.toNat)).sum

/-- The egress queue has room for a packet (R251). -/
def Port.room (x : Port) (k : Packet) : Bool :=
  decide (x.queued k.vc + k.tlen.toNat ≤ if k.vc = 4 then 8192 else 65536)

/-- FSEQ of the last flit that the n packet bytes waiting in a port end in (R243). -/
def Port.seqAt (x : Port) (n : Nat) : BitVec 12 := x.txSeq + BitVec.ofNat 12 ((n - 1) / 242)

/-- A packet may start on a port: outside low-power idle, with credit for its VC, and in the service regime a retry buffer of
2,048 flits that holds its flits too (R244, R245, R324). -/
def Port.mayStart (x : Port) (e2e : Bool) (k : Packet) : Bool :=
  !x.lpi && decide (k.need ≤ x.credit k.vc.toNat) &&
  (e2e || decide (x.flits.length + ceilDiv (x.txBuf.length + k.tlen.toNat) 242 ≤ 2048))

/-- A packet starts on a port: credits are spent and its bytes are packed back to back behind those that wait; in the service
regime the packet is kept under the FSEQ of its last flit (R244, R245, entry 15). -/
def transmit (p : Nat) (k : Packet) (s : State) : State :=
  let x := s.port p
  let buf := x.txBuf ++ k.bytes
  let x :=
    { x with credits := tabSet x.credits k.vc.toNat (x.credit k.vc.toNat - k.need), txBuf := buf,
             txMarks := x.txMarks ++ [x.txBuf.length],
             lastVc := if k.vc = 4 then x.lastVc else BitVec.ofNat 2 k.vc.toNat,
             retry := if s.e2eMode then x.retry else x.retry ++ [(x.seqAt buf.length, k)] }
  (s.setPort p x).emit (.packet p k)

/-- A packet waits in a port's egress queue. -/
def enqueue (p : Nat) (k : Packet) (s : State) : State :=
  let x := s.port p
  s.setPort p { x with egress := x.egress ++ [k] }

/-- A packet is placed on a member of a group: round-robin among members that are UP and hold credit for its VC (R225); it
waits for credit on the next member where none holds it (R244). -/
def portSend (p : Nat) (k : Packet) (s : State) : State :=
  let t := (s.port p).turn
  let ups := s.upMembers p
  let rot := (ups.filter (fun m => decide (p + t ≤ m))) ++ (ups.filter (fun m => decide (m < p + t)))
  match rot.find? (fun m => (s.port m).mayStart s.e2eMode k && (s.port m).queued k.vc = 0) with
  | some m =>
    let x := s.port p
    transmit m k (s.setPort p { x with turn := m - p + 1 })
  | none => enqueue (rot.headD p) k s

/-! ### Flits (R225, R243, R245) -/

/-- Credit returns that one flit carries: two VCs, at most 255 each; code 7 names none (R243). -/
def creditPair (owed : Tab Nat) : List (Nat × Nat) :=
  ((owed.take 2).map (fun (c : Nat × Nat) => (c.1, min 255 c.2)) ++ [(7, 0), (7, 0)]).take 2

/-- Credit returns that still wait after one flit. -/
def creditLeft (owed : Tab Nat) : Tab Nat :=
  ((owed.take 2).map (fun (c : Nat × Nat) => (c.1, c.2 - 255))).filter (fun c => c.2 != 0) ++ owed.drop 2

/-- The 256 bytes of a flit: its packet bytes, its fields, and FCRC over bytes 0 to 251 (R243). -/
def Flit.bytes (f : Flit) (ack : BitVec 12) (nak retry : Bool) (credits : List (Nat × Nat)) : List Byte :=
  let c0 := credits.headD (7, 0)
  let c1 := (credits.drop 1).headD (7, 0)
  let fields := f.seq.toNat + ack.toNat * 2 ^ 12 + bit nak * 2 ^ 24 + bit retry * 2 ^ 25 + bit f.idle * 2 ^ 27 +
    f.start * 2 ^ 28 + c0.1 * 2 ^ 36 + c0.2 * 2 ^ 39 + c1.1 * 2 ^ 47 + c1.2 * 2 ^ 50
  let b := slice f.body 0 242 ++ leBytes 10 fields
  b ++ leBytes 4 (crc32c b).toNat

/-- The next flit of a port: up to 242 of the bytes that wait, or an IDLE flit (R243, R244). -/
def Port.nextFlit (x : Port) : Flit :=
  { seq := x.txSeq, idle := x.txBuf.isEmpty, start := (x.txMarks.head?.filter (fun m => decide (m < 242))).getD 0xFF,
    body := slice x.txBuf 0 242 }

/-- A port after its next flit has left (R243, R245). -/
def Port.sent (x : Port) (e2e : Bool) : Port :=
  { x with txBuf := x.txBuf.drop 242, txMarks := (x.txMarks.filter (fun m => decide (242 ≤ m))).map (fun m => m - 242),
           txSeq := x.txSeq + 1, flits := if e2e then x.flits else x.flits ++ [x.nextFlit],
           owed := creditLeft x.owed, ackDue := false, nakDue := false }

/-- A port sends its next flit, with the acknowledgement, the NAK and the credits that wait (R243, R245). -/
def sendFlit (p : Nat) (s : State) : State :=
  let x := s.port p
  (s.setPort p (x.sent s.e2eMode)).emit (.flit p (x.nextFlit.bytes x.rxSeq x.nakDue false (creditPair x.owed)))

/-- Flits that what waits in a port takes: its packet bytes, and one for an acknowledgement, a NAK or credits alone. -/
def Port.flitsDue (x : Port) : Nat :=
  if x.txBuf.isEmpty then bit (x.ackDue || x.nakDue || !x.owed.isEmpty) else ceilDiv x.txBuf.length 242

/-- Members of a group that are UP send n flits each, from one transmit frame edge: their flit counters run in lock-step
(R225). -/
def sendFlits (ms : List Nat) (n : Nat) (s : State) : State :=
  (List.range n).foldl (fun s _ => ms.foldl (fun s m => sendFlit m s) s) s

/-- Port p leads a link: it is no other port's member (R225). -/
def State.leads (s : State) (p : Nat) : Bool :=
  (List.range 16).all (fun l => l = p || !(s.members l).contains p)

/-- Leaders of links that are UP. -/
def State.linksUp (s : State) : List Nat := (List.range 16).filter (fun p => s.leads p && s.linkUp p)

/-- The port that sends a link's sync frames, its lowest member that is UP, is in low-power idle: its frames carry the LPI flag
(R230, R234). -/
def State.linkIdle (s : State) (p : Nat) : Bool := (s.upMembers p).head?.any (fun m => (s.port m).lpi)

/-- What waits on the ports leaves in flits: at the next tclk of an idle module (entries 1, 15). -/
def flushLinks (s : State) : State :=
  s.linksUp.foldl (fun s p =>
    let ms := (s.upMembers p).filter (fun m => !(s.port m).lpi)
    sendFlits ms ((ms.map (fun m => (s.port m).flitsDue)).foldl max 0) s) s

/-- An idle module: one tclk passes, what waits on its ports leaves, and bits may fail (R121, R229, R243, R380). -/
def State.idle (s : State) : State := (flushLinks (s.pass 1)).upset

/-- Where a packet goes from this module. -/
inductive Hop where
  | unit (u : Nat)
  | mcast (r : Route)
  | out (p : Nat) (detoured : Bool) (push : Option W16)
  | wait (p : Nat)
  | drop (code : Nat)
deriving DecidableEq, Repr

/-- The link a FORWARD entry uses: PRIMARY, or DETOUR, or the adaptive choice, whose detour the flag names (R250). -/
def adaptiveDetour (s : State) (r : Route) (k : Packet) : Option Nat :=
  match r.detour with
  | none => none
  | some d =>
    if r.adapt && !s.stillwater && s.fabric.adaptFabric && s.linkUp r.primary && s.linkUp d &&
        decide (s.linkCredits r.primary k.vc.toNat < s.linkCredits d k.vc.toNat) then some d
    else none

/-- The decision of R250 and R251 for a packet whose LOCAL waypoints have been popped. -/
def decideHop (s : State) (k : Packet) : Hop :=
  let r := s.route k.routingEid
  if r.kind = 0 then .drop 0x4A
  else if r.kind = 2 then .unit r.unit
  else if k.hops = 0 then .drop 0x4B
  else if r.kind = 3 then .mcast r
  else
    match adaptiveDetour s r k with
    | some d => .out d false none
    | none =>
      if s.linkUp r.primary then .out r.primary false none
      else
        match r.detour.filter s.linkUp with
        | some d => if r.waypoint.isSome && k.nrh = 3 then .drop 0x4A else .out d true r.waypoint
        | none =>
          match (s.members r.primary).find? (fun m => (s.port m).st = .recovery && (s.port m).room k) with
          | some m => .wait m
          | none => .drop 0x4C

/-- Waypoints that resolve to LOCAL here are popped (R241). -/
def popLocal : Nat → State → Packet → Packet
  | 0, _, k => k
  | n + 1, s, k =>
    if k.nrh != 0 && (s.route k.routingEid).kind = 2 then popLocal n s k.popped.sealed else k

/-- A packet as it leaves: HOPS lowered, a waypoint pushed and the trailer appended on a detour (R250). -/
def leaving (k : Packet) (detoured : Bool) (push : Option W16) : Packet :=
  let k := { k with hops := k.hops - 1 }
  let k := match push with
    | some e => k.pushed e
    | none => k
  (if detoured then k.withTrailer else k).sealed

/-- The ports of a mask. -/
def maskPorts (m : Nat) : List Nat := (List.range 16).filter (fun p => bitAt m p)

/-- The packet leaves by a link; an adaptive choice of DETOUR is a tide-variance source (R197, R250). -/
def leaveBy (p : Nat) (detoured : Bool) (push : Option W16) (k : Packet) (s : State) : State :=
  let r := s.route k.routingEid
  let s := if !detoured && r.kind = 1 && p != r.primary then s.variance 4 else s
  portSend p (leaving k detoured push) s

/-! ### Packets of this module -/

/-- A packet that a unit of this module originates (R239, R259). -/
def newPacket (s : State) (typ vc : Nat) (dst : W16) (sunit rcnt arg : Nat) (tag raddr : W32) (payload : List Byte) : Packet :=
  let k : Packet :=
    { typ := BitVec.ofNat 4 typ, vc := BitVec.ofNat 3 vc, e2e := false, nrh := 0, hops := 31, dst := dst,
      src := s.homeEid, sunit := BitVec.ofNat 8 sunit, plen := BitVec.ofNat 8 (payload.length / 64), tlen := 0,
      rcnt := BitVec.ofNat 4 rcnt, rsv10 := 0, arg := BitVec.ofNat 8 arg, tag := tag, raddr := raddr, ts := s.now,
      hcrc := 0, rhs := [], payload := payload, trailer := none, rxLen := 0 }
  (if s.e2eMode then k.withTrailer else k).sealed

/-- A packet reaches the mesh toward a unit of this module. -/
def toMesh (k : Packet) (s : State) : State := { s with fabric := { s.fabric with mesh := s.fabric.mesh ++ [k] } }

/-- A partner of every member of a link that is UP is in low-power idle (R248). -/
def State.linkSleeps (s : State) (p : Nat) : Bool :=
  s.linkUp p && (s.upMembers p).all (fun m => s.fieldAt (pkey m 4) 12 1 = 1)

/-- A WAKE packet routed to a sleeping partner ends here: it waits for the partner's next burst (R248). -/
def absorbWake (p : Nat) (k : Packet) (s : State) : State :=
  let m := (s.upMembers p).headD p
  let x := s.port m
  s.setPort m { x with wakeDue := x.wakeDue ++ [(k.src, k.sunit, k.tag)] }

/-- A packet leaves by a link; a WAKE toward a sleeping partner goes no farther than its frame (R248, R250). -/
def leaveOrWake (p : Nat) (detoured : Bool) (push : Option W16) (k : Packet) (s : State) : State :=
  if k.typ = 8 && k.arg = 1 && s.linkSleeps p then absorbWake p k s else leaveBy p detoured push k s

/-- A packet of a start crosses the mesh to a port's router, unless it comes from another port over the ring (R19, R226). -/
def toPort (pos p : Nat) (k : Packet) (s : State) : State :=
  if 144 ≤ pos then s else meshAdapt (decide (k.vc.toNat < 4)) pos (portRouter p) s

/-- A packet is replicated to the ports of an MCAST entry that are UP and that it reaches (R17, R252). -/
def toPorts (pos : Nat) (r : Route) (k : Packet) (s : State) : State :=
  ((maskPorts r.w1.toNat).filter (fun p => s.linkUp p && s.reachesPort pos p)).foldl
    (fun s p => portSend p (leaving k false none) (toPort pos p k s)) s

/-- A packet starts over the mesh to a unit of this module (R17, R19). -/
def toUnit (pos u : Nat) (k : Packet) (s : State) : State :=
  if k.actsAtIngress u then toMesh k s
  else if s.reaches pos (k.position u) then
    toMesh k (meshAdapt (decide (k.vc.toNat < 4)) (meshEntry pos) (k.position u) s)
  else s

/-- A packet is sent from a start: the state, and the code of the case that drops it. A pair of routers that mesh traffic
cannot join loses the packet without count (R17). -/
def sendFrom (pos : Nat) (k : Packet) (s : State) : State × Option Nat :=
  let k := popLocal 4 s k
  match decideHop s k with
  | .drop c => (s, some c)
  | .unit u => (toUnit pos u k s, none)
  | .out p d w => (if s.reachesPort pos p then leaveOrWake p d w k (toPort pos p k s) else s, none)
  | .wait p => (if s.reachesPort pos p then enqueue p (leaving k false none) (toPort pos p k s) else s, none)
  | .mcast r =>
    let s := toPorts pos r k s
    (if bitAt r.w3.toNat 0 then toUnit pos r.unit k s else s, none)

/-- A drop of R260 is counted, and logged unless it is HDR_CRC. -/
def countDrop (code : Nat) (k : Packet) (s : State) : State :=
  let s := (s.fabCount (if code = 0x48 then 1 else 0)).fabStatus 0
  if code = 0x48 then s else s.flogPush 0 code k.src k.tag

/-- A packet is dropped with a code: counted, logged, and NACKed to SRC where R260 says so. -/
def dropPacket (pos code : Nat) (k : Packet) (s : State) : State :=
  let s := countDrop code k s
  if code = 0x48 || k.typ = 4 || k.typ = 5 || (s.route k.src).kind = 0 then s
  else
    let n := newPacket s 5 4 k.src k.sunit.toNat 0 code k.tag (w32 s.homeEid.toNat) []
    let s := s.fabCount 2
    match sendFrom pos n s with
    | (s, none) => s
    | (s, some c) => countDrop c n s

/-- A packet is sent, or dropped by the rule that its route gives (R250, R251, R260). -/
def originate (pos : Nat) (k : Packet) (s : State) : State :=
  match sendFrom pos k s with
  | (s, none) => s
  | (s, some c) => dropPacket pos c k s

/-! ### Acknowledgements (R254) -/

/-- Gathered tags leave as one ACK packet, from where the first of them was accepted (entry 104). -/
def sendAck (g : AckGather) (s : State) : State :=
  let rest := ((g.tags.drop 1).map (fun t => leBytes 4 t.toNat)).flatten
  let pay := if g.tags.length ≤ 1 then [] else slice rest 0 64
  originate g.start (newPacket s 4 4 g.eid g.sunit.toNat 0 g.tags.length (g.tags.headD 0) 0 pay) s

/-- A tag of a source unit is acknowledged from a start: it joins the ACK being gathered, which leaves at 16 tags. -/
def gatherAck (eid : W16) (sunit : Byte) (tag : W32) (pos : Nat) (s : State) : State :=
  let mine := fun (g : AckGather) => g.eid = eid && g.sunit = sunit
  match s.fabric.gathers.find? mine with
  | none =>
    let g : AckGather := { eid := eid, sunit := sunit, tags := [tag], since := s.now, start := pos }
    { s with fabric := { s.fabric with gathers := s.fabric.gathers ++ [g] } }
  | some g =>
    let g := { g with tags := g.tags ++ [tag] }
    let others := s.fabric.gathers.filter (fun h => !mine h)
    if g.tags.length < 16 then { s with fabric := { s.fabric with gathers := others ++ [g] } }
    else sendAck g { s with fabric := { s.fabric with gathers := others } }

end Sys2Proof.Machine
end

