-- ==== Sys2Proof/Machine/Gantry.lean ====
section
/-! DEFINITION. Gantries: MOV and SEND at issue, at their start and at their completion (R146 to R149, R164, R253,
R255, R389, R390). A gantry reads and moves an instruction's words when it starts it; an idle gantry starts it as it
issues, and otherwise GANTRY_START does (entry 13). -/

namespace Sys2Proof.Machine

/-! ### Queues -/

/-- A job leaves its gantry's queue. -/
def Quay.dropGant (x : Quay) (g id : Nat) : Quay := x.setGant g ((x.gant g).filter (fun j => j.id != id))

/-- A gantry instruction ends without completing: it leaves the queue and its entries are released. -/
def dropGantJob (q g id : Nat) (s : State) : State := s.setQuay q (((s.quay q).dropGant g id).release id)

/-- A job of a gantry changed. -/
def putGant (q g : Nat) (j : GantJob) (s : State) : State :=
  let x := s.quay q
  s.setQuay q (x.setGant g ((x.gant g).map (fun k => if k.id = j.id then j else k)))

/-! ### MOV -/

/-- Bytes of the image that a weight-buffer MOV takes (R52, R147). -/
def fillBytes (w : W128) : Nat :=
  let f := wf w 61 4
  let n := wf w 59 2 + 1
  if isWide f then n / 2 * 4096 else n * (tileBytes f + tileScaleBytes f)

/-- Bounding length of the strided and of the packed side (R147). -/
def movLengths (w : W128) : Nat × Nat :=
  let rb := (wf w 88 10 + 1) * 64
  let n := wf w 98 6
  (n * wf w 104 16 * 64 + rb, (n + 1) * rb)

/-- Bounding length of the source and of the destination. -/
def movSides (w : W128) : Nat × Nat :=
  let l := movLengths w
  if wf w 120 1 = 0 then l else (l.2, l.1)

/-- The 64 B words of a MOV in order: source and destination address (R147, R164). -/
def movWords (w : W128) : List (Nat × Nat) :=
  let n := wf w 88 10 + 1
  (List.range (wf w 98 6 + 1)).flatMap (fun j => (List.range n).map (fun i =>
    let strided := (j * wf w 104 16 + i) * 64
    let packed := (j * n + i) * 64
    if wf w 120 1 = 0 then (sadr (wf w 24 32) + strided, sadr (wf w 56 32) + packed)
    else (sadr (wf w 24 32) + packed, sadr (wf w 56 32) + strided)))

/-- Words moved in order, up to the first uncorrectable codeword of the source. -/
def moveWords : List (Nat × Nat) → State → State × Option Nat
  | [], s => (s, none)
  | (a, b) :: t, s =>
    let r := s.readStack a 64
    match r.2.2 with
    | some bad => (r.1, some bad)
    | none => moveWords t (r.1.writeStack b r.2.1)

/-- The first word that the tenant check refuses: its index and the refused address, source side first (R389). -/
def movRefused (q : Nat) (s : State) : Nat → List (Nat × Nat) → Option (Nat × Nat)
  | _, [] => none
  | i, (a, b) :: t =>
    let ten := s.tenantOf q
    if !s.tenantOk (some q) ten a then some (i, a)
    else if !s.tenantOk (some q) ten b then some (i, b)
    else movRefused q s (i + 1) t

/-- A MOV to memory. A refused word ends it with TENANT_XS after some of the words before it have moved (R390); an
uncorrectable word leaves its whole destination indeterminate (R123). -/
def movRun (q g : Nat) (j : GantJob) (s : State) : State :=
  let words := movWords j.word
  let bad := movRefused q s 0 words
  let n := match bad with
    | some (k, _) => Config.freeCount s.free % (k + 1)
    | none => words.length
  let s := if bad.isSome then s.useFree else s
  match moveWords (words.take n) s with
  | (s, some ue) =>
    let s := s.ueFault q j.id j.index ue
    dropGantJob q g j.id (words.foldl (fun s p => s.scrambleStack p.2 64) s)
  | (s, none) =>
    match bad with
    | some (_, a) => dropGantJob q g j.id (s.dataFault q j.id j.index 0xDB (memInfo a))
    | none => s

/-- Bytes [a, a + 64 n) read word by word, up to the first uncorrectable codeword: the bytes got and that codeword. -/
def readWords : Nat → Nat → State → State × List Byte × Option Nat
  | 0, _, s => (s, [], none)
  | n + 1, a, s =>
    let r := s.readStack a 64
    match r.2.2 with
    | some bad => (r.1, [], some bad)
    | none =>
      let t := readWords n (a + 64) r.1
      (t.1, r.2.1 ++ t.2.1, t.2.2)

/-- One slot's bytes of an image stored: elements, then scales (R53, R54). A wide tile is two slots of 2,048 B. -/
def storeSlot (f h slot : Nat) (img : List Byte) (i : Nat) (wb : Mem) : Mem :=
  if isWide f then wb.write (slotBase h (slot + i)) (slice img (2048 * i) 2048)
  else
    let e := tileBytes f
    let c := tileScaleBytes f
    (wb.write (slotBase h (slot + i)) (slice img (i * (e + c)) e)).write (slotBase h (slot + i) + 2048)
      (slice img (i * (e + c) + e) c)

/-- Bytes of an image that one slot takes. -/
def slotImage (f : Nat) : Nat := if isWide f then 2048 else tileBytes f + tileScaleBytes f

/-- Slots of a run set to a state. -/
def setSlots (h slot n : Nat) (v : SlotState) (x : Quay) : Quay :=
  (List.range n).foldl (fun x i => x.setSlot h (slot + i) v) x

/-- A MOV into the weight buffer. Slots whose bytes were all got before an uncorrectable codeword are FULL, the others
EMPTY again (R56, R123); otherwise the slots stay FILLING until they complete. -/
def fillRun (q g : Nat) (j : GantJob) (s : State) : State :=
  let f := wf j.word 61 4
  let h := wf j.word 56 1
  let slot := wf j.word 57 2
  let n := wf j.word 59 2 + 1
  let r := readWords (ceilDiv (fillBytes j.word) 64) (sadr (wf j.word 24 32)) s
  let s := r.1
  let x := s.quay q
  let s := s.setQuay q { x with wb := (List.range n).foldl (fun m i => storeSlot f h slot r.2.1 i m) x.wb }
  match r.2.2 with
  | none => s
  | some ue =>
    let done := min n (r.2.1.length / slotImage f)
    let s := s.setQuay q (setSlots h (slot + done) (n - done) .empty (setSlots h slot done .full (s.quay q)))
    dropGantJob q g j.id (s.ueFault q j.id j.index ue)

/-- Quay positions at which a MOV has a side. -/
def movReach (q : Nat) (w : W128) (s : State) : Bool :=
  s.routable q (wf w 48 8) && (wf w 122 1 = 1 || s.routable q (wf w 80 8))

/-! ### SEND -/

/-- The adjusted fields of a SEND (R148). -/
structure SendWord where
  lbase : Nat
  nlen : Nat
  eid : W16
  raddr : W32
  lcnt : Nat
  rcnt : BitVec 4
  vc : BitVec 2
  read : Bool
deriving DecidableEq, Repr

/-- The fields of a SEND word. -/
def sendWord (w : W128) : SendWord :=
  { lbase := wf w 24 13, nlen := wf w 37 10, eid := BitVec.ofNat 16 (wf w 47 16), raddr := w32 (wf w 63 32),
    lcnt := wf w 95 4, rcnt := BitVec.ofNat 4 (wf w 99 4), vc := BitVec.ofNat 2 (wf w 103 2), read := wf w 105 1 = 1 }

/-- Packets of a SEND (R149). -/
def sendCount (nlen : Nat) : Nat := max 1 (ceilDiv nlen 64)

/-- Length of packet i of a SEND in 64 B units. -/
def sendPart (nlen i : Nat) : Nat := min 64 (nlen - 64 * i)

/-- TAG of packet i (R253). -/
def sendTag (g : Nat) (base : W32) (i : Nat) : W32 := w32 (g * 2 ^ 31 + (base.toNat + i) % 2 ^ 31)

/-- The failure records of a gantry stored, with REC in SEND_REC (R265). -/
def putRecs (q g : Nat) (l : List SendRec) (s : State) : State :=
  let s := s.setQuay q ((s.quay q).setRecs g l)
  s.setField (qkey q 0x600) (4 * g) 3 l.length

/-- A record has the fields of a SEND (R255). -/
def SendRec.matches (r : SendRec) (f : SendWord) : Bool :=
  r.eid = f.eid && r.raddr = f.raddr && r.lbase = f.lbase && r.nlen = f.nlen && r.lcnt = f.lcnt && r.rcnt = f.rcnt && r.vc = f.vc

/-- The tag base of a starting SEND: a matching record's, which is consumed, or the serial, which advances (R253, R255). -/
def takeTags (q g : Nat) (f : SendWord) (s : State) : State × W32 :=
  let x := s.quay q
  match (if f.read then none else (x.recs g).find? (fun r => r.matches f)) with
  | some r => (putRecs q g ((x.recs g).erase r) s, r.tagBase)
  | none =>
    let b := x.serial g
    (s.setQuay q (x.setSerial g (b + BitVec.ofNat 31 (sendCount f.nlen))), w32 b.toNat)

/-- ACKs that complete a packet: MCOUNT for a WRITE to an MCAST EID, else one (R252, R253). -/
def acksFor (s : State) (k : Packet) : Nat :=
  let r := s.route k.dst
  if k.typ = 1 && r.kind = 3 then max 1 r.w2.toNat else 1

/-- Packets of a SEND are injected in order while fewer than 256 are outstanding (R164, R253). -/
def injectAll (q g id : Nat) : List Packet → State → State × List Packet
  | [], s => (s, [])
  | k :: t, s =>
    let x := s.quay q
    if 256 ≤ (x.outs g).length then (s, k :: t)
    else
      let k' := { k with ts := s.now }.sealed
      let o : OutPkt := { send := id, pkt := k', acks := acksFor s k', resends := 0, lastSent := s.now, start := q }
      let s := s.setQuay q (x.setOuts g (x.outs g ++ [o]))
      injectAll q g id t (originate q k' s)

/-- A SEND in flight replaced, or removed. -/
def putSend (q : Nat) (j : SendJob) (s : State) : State :=
  let x := s.quay q
  s.setQuay q { x with sends := x.sends.map (fun k => if k.id = j.id then j else k) }

/-- The packets that wait for a place of R253 are tried again. -/
def pumpSend (q id : Nat) (s : State) : State :=
  match (s.quay q).sends.find? (fun j => j.id = id) with
  | none => s
  | some j =>
    let r := injectAll q j.gantry id j.todo s
    match (r.1.quay q).sends.find? (fun j => j.id = id) with
    | none => r.1
    | some j => putSend q { j with todo := r.2 } r.1

/-- Payloads of a WRITE read packet by packet, up to the first uncorrectable codeword. -/
def sendPayloads (q : Nat) (f : SendWord) : List Nat → State → State × List (List Byte) × Option Nat
  | [], s => (s, [], none)
  | i :: t, s =>
    let r := readWords (sendPart f.nlen i) (stackAddr q 0 (64 * f.lbase + 4096 * i)) s
    match r.2.2 with
    | some bad => (r.1, [], some bad)
    | none =>
      let u := sendPayloads q f t r.1
      (u.1, r.2.1 :: u.2.1, u.2.2)

/-- A SEND starts: its payload is read, its tags are taken and its packets are injected (R149, R164, R253). A WRITE
abandoned at an uncorrectable codeword keeps only the packets whose payload it had read (R123). -/
def sendRun (q g : Nat) (j : GantJob) (s : State) : State :=
  let f := sendWord j.word
  let parts := List.range (sendCount f.nlen)
  let p := if f.read || f.nlen = 0 then (s, parts.map (fun _ => []), none) else sendPayloads q f parts s
  let t := takeTags q g f p.1
  let s := t.1
  let pkts := ((parts.zip p.2.1).map (fun a =>
    let tag := sendTag g t.2 a.1
    let ra := f.raddr + w32 (64 * a.1)
    if f.read then newPacket s 2 f.vc.toNat f.eid q 0 (sendPart f.nlen a.1 - 1) tag ra []
    else newPacket s 1 f.vc.toNat f.eid q f.rcnt.toNat 0 tag ra a.2))
  let job : SendJob :=
    { id := j.id, index := j.index, gantry := g, write := !f.read, eid := f.eid, raddr := f.raddr, lbase := f.lbase,
      nlen := f.nlen, lcnt := f.lcnt, rcnt := f.rcnt, vc := f.vc, tagBase := t.2, left := pkts.length, lost := false,
      todo := pkts }
  let x := s.quay q
  let s := if pkts.isEmpty then s else pumpSend q j.id (s.setQuay q { x with sends := x.sends ++ [job] })
  match p.2.2 with
  | none => s
  | some bad =>
    let s := s.ueFault q j.id j.index bad
    dropGantJob q g j.id s

/-! ### Start -/

/-- The words of a MOV that cross the mesh to or from another quay's router (R13, R19). -/
def movAdapt (q : Nat) (w : W128) (s : State) : State :=
  let s := meshAdapt true q (wf w 48 8) s
  if wf w 122 1 = 1 then s else meshAdapt true q (wf w 80 8) s

/-- A MOV with a side in an apron that is being scrubbed waits for the scrub's end (R110). -/
def movAwait (w : W128) (s : State) : State :=
  let s := awaitScrub (sadr (wf w 24 32)) s
  if wf w 122 1 = 1 then s else awaitScrub (sadr (wf w 56 32)) s

/-- The gantry starts the first instruction of its queue, if it has not started it (R164). A MOV between routers that no
line or column connects never gets its words and stays in the queue (R17). -/
def startGant (q g : Nat) (s : State) : State :=
  match (s.quay q).gant g with
  | [] => s
  | j :: _ =>
    if j.started then s
    else
      let j := { j with started := true }
      if j.isMov then
        if movReach q j.word s then
          let s := movAdapt q j.word (movAwait j.word (putGant q g j s))
          if j.fill.isSome then fillRun q g j s else movRun q g j s
        else putGant q g { j with failed := true } s
      else sendRun q g j (putGant q g j s)

/-- A gantry instruction that has issued joins the queue. On an idle gantry it starts at once unless its start meets a data
fault: then GANTRY_START starts it, and later instructions may issue before the fault (R138, R164, R180, entry 13). -/
def joinGant (q g : Nat) (w : W128) (isMov : Bool) (fill : Option (Nat × Nat × Nat)) (s : State) : State :=
  let x := s.quay q
  let j : GantJob :=
    { id := x.nextId - 1, index := x.pc.toNat - 1, word := w, started := false, isMov := isMov, fill := fill, failed := false }
  let s := s.setQuay q (x.setGant g (x.gant g ++ [j]))
  if (x.gant g).isEmpty then
    let t := startGant q g s
    if (t.quay q).st = x.st then t else s
  else s

/-- Condition 4 of R162 for a gantry (R163). -/
def Quay.gantAccepts (x : Quay) (g : Nat) : Bool := decide ((x.gant g).length < 4)

/-- MOV after steps 1 to 4 of R138. -/
def movIssue (q : Nat) (w : W128) (s : State) : State :=
  let g := wf w 121 1
  let wb := wf w 122 1 = 1
  let l := movSides w
  let src := wf w 24 32
  let dst := wf w 56 32
  let sl := if wb then fillBytes w else l.1
  match firstRaised [sadrCheck s src sl 24, if wb then none else sadrCheck s dst l.2 56] with
  | some r => s.raise q (some r)
  | none =>
    let rs := stackRegion q (sadr src) sl false ++
      (if wb then [halfRegion (wf w 56 1) true] else stackRegion q (sadr dst) l.2 true)
    match s.tryIssue q (.gantry g) false rs ((s.quay q).gantAccepts g) (s.budget q 2 g) with
    | (s, false) => s
    | (s, true) =>
      if wb then
        let fill := (wf w 56 1, wf w 57 2, wf w 59 2 + 1)
        let s := s.setQuay q (setSlots fill.1 fill.2.1 fill.2.2 .filling (s.quay q))
        joinGant q g w true (some fill) s
      else joinGant q g w true none s

/-- MOV (R147). -/
def execMov (q : Nat) (s : State) : Res :=
  .next (seqIssue q (fun op _ => op = .mov) (movIssue q) s)

/-- SEND_EID (R253). -/
def sendEid (s : State) (f : SendWord) : Option Raised :=
  let k := (s.route f.eid).kind
  if k = 0 || (f.read && k = 3) then some (0x50, f.eid.toNat) else none

/-- R105 on the RADDR of a SEND: against this module's map where the EID is the stack of this module, else by its fields alone
(entry 11). -/
def sendTarget (s : State) (f : SendWord) (n : Nat) : Option Raised :=
  let r := s.route f.eid
  if r.kind = 2 && r.unit = 0 then sadrCheck s f.raddr.toNat n 63 else raddrCheck f.raddr.toNat n

/-- SEND after steps 1 to 4 of R138. -/
def sendIssue (q : Nat) (w : W128) (s : State) : State :=
  let g := wf w 106 1
  let f := sendWord w
  let n := 64 * f.nlen
  match firstRaised [if f.nlen = 0 then none else apronBounds (64 * f.lbase) n, sendTarget s f n, sendEid s f] with
  | some r => s.raise q (some r)
  | none =>
    let rs := if f.nlen = 0 then [] else [apronRegion (64 * f.lbase) n f.read]
    match s.tryIssue q (.gantry g) false rs ((s.quay q).gantAccepts g) (s.budget q 2 g) with
    | (s, false) => s
    | (s, true) => joinGant q g w false none s

/-- SEND with KIND WRITE (R149). -/
def execSendWrite (q : Nat) (s : State) : Res :=
  .next (seqIssue q (fun op w => op = .send && wf w 105 1 = 0) (sendIssue q) s)

/-- SEND with KIND READ (R149). -/
def execSendRead (q : Nat) (s : State) : Res :=
  .next (seqIssue q (fun op w => op = .send && wf w 105 1 = 1) (sendIssue q) s)

/-! ### Events -/

/-- The first instruction of a gantry has made its last source read, injection or request. -/
def Quay.gantRead (x : Quay) (j : GantJob) : Bool :=
  j.started && !j.failed && x.sends.all (fun k => k.id != j.id || k.todo.isEmpty)

/-- The running instruction leaves the queue; a MOV goes on writing, with its source released (R164, R169). -/
def retireGant (q g : Nat) (j : GantJob) (s : State) : State :=
  let x := (s.quay q).dropGant g j.id
  let x := if j.isMov then x.setMoving g (x.moving g ++ [j]) else x
  s.setQuay q (x.releaseIf j.id (fun r => !r.write))

/-- GANTRY_START: the current instruction has made its last source read, injection or request, and the next one of the
queue starts (R164). -/
def execGantryStart (q g : Nat) (s : State) : Res :=
  .next (match (s.quay q).gant g with
    | [] => s
    | j :: _ =>
      if !j.started then startGant q g s
      else if (s.quay q).gantRead j then startGant q g (retireGant q g j s)
      else s)

/-- A MOV's last word is written: its slots are FULL and its entries released (R56, R147, R169). -/
def finishMov (q g : Nat) (j : GantJob) (s : State) : State :=
  let x := ((s.quay q).dropGant g j.id).release j.id
  let x := x.setMoving g ((x.moving g).filter (fun k => k.id != j.id))
  let x := match j.fill with
    | some f => setSlots f.1 f.2.1 f.2.2 .full x
    | none => x
  s.setQuay q x

/-- MOV_DONE: the oldest MOV of the gantry that is still writing completes (R147). -/
def execMovDone (q g : Nat) (s : State) : Res :=
  .next (let x := s.quay q
    match x.moving g with
    | j :: _ => finishMov q g j s
    | [] =>
      match x.gant g with
      | j :: _ => if j.isMov && j.started && !j.failed then finishMov q g j s else s
      | [] => s)

/-! ### Completion of packets at the source (R149, R253, R255) -/

/-- A failed WRITE SEND is recorded; a fifth record evicts the oldest and logs REISSUE_EVICT (R255). -/
def recordSend (q : Nat) (j : SendJob) (s : State) : State :=
  let r : SendRec :=
    { tagBase := j.tagBase, eid := j.eid, raddr := j.raddr, lbase := j.lbase, nlen := j.nlen, lcnt := j.lcnt,
      rcnt := j.rcnt, vc := j.vc, age := 0 }
  let l := (s.quay q).recs j.gantry
  if l.length < 4 then putRecs q j.gantry (l ++ [r]) s
  else
    let old := (l.head?.map (·.tagBase)).getD 0
    let s := s.flogPush 2 0x54 ((l.head?.map (·.eid)).getD 0) (sendTag j.gantry old 0)
    (putRecs q j.gantry (l.drop 1 ++ [r]) s).orReg (qkey q 0x600) (2 ^ (8 + j.gantry))

/-- The last packet of a SEND has completed (R149, R169, R255). -/
def finishSend (q : Nat) (j : SendJob) (s : State) : State :=
  let x := s.quay q
  let x := (({ x with sends := x.sends.filter (fun k => k.id != j.id) }).dropGant j.gantry j.id).release j.id
  let s := s.setQuay q x
  if j.lost && j.write then recordSend q j s else s

/-- A place of R253 is free: the SEND of the gantry that waits for one goes on injecting, whichever SEND's packet left it
(R164). -/
def pumpGant (q g : Nat) (s : State) : State :=
  match (s.quay q).sends.find? (fun j => j.gantry = g && !j.todo.isEmpty) with
  | some j => pumpSend q j.id s
  | none => s

/-- An outstanding packet of a quay completes, as success or LOST: the local counter, the LOST log of the SEND's first
lost packet, and the SEND itself (R149, R253, R263). -/
def completePacket (q g : Nat) (o : OutPkt) (lost : Bool) (s : State) : State :=
  let x := s.quay q
  let s := s.setQuay q (x.setOuts g ((x.outs g).filter (fun k => k.pkt.tag != o.pkt.tag)))
  match (s.quay q).sends.find? (fun j => j.id = o.send) with
  | none => pumpGant q g s
  | some j =>
    let s := if lost then s.arriveLost q j.lcnt else s.arrive q j.lcnt
    let s := if lost then s.fabCount 4 else s
    let s := if lost && !j.lost then s.flogPush 2 0x51 j.eid o.pkt.tag else s
    let j := { j with left := j.left - 1, lost := j.lost || lost }
    pumpGant q g (if j.left = 0 then finishSend q j s else putSend q j s)

end Sys2Proof.Machine
end

