-- ==== Sys2Proof/Machine/Fabric.lean ====
section
/-! DEFINITION. Packets that arrive: the checks of R260 in order, delivery, deduplication, acknowledgement, completion
at the source, quench, wake and the timed events of the fabric (spec/10_packets_and_routing.md). -/

namespace Sys2Proof.Machine

/-! ### Destination (R254, R257, R389) -/

/-- The tenant of an owned EID (R388). -/
def State.eidTenant (s : State) (eid : W16) : Option Nat :=
  (s.fabric.eids.find? (fun e => e.1 = eid)).map (fun e => e.2.toNat)

/-- A window entry belongs to the source of a packet. -/
def DedupEntry.of (e : DedupEntry) (k : Packet) : Bool := e.src = k.src && e.sunit = k.sunit

/-- A stamp is younger than 4 × the completion timeout (R257). -/
def State.young (s : State) (t : W64) : Bool := decide (s.now.toNat < t.toNat + 4 * s.cto)

/-- The window holds a young entry with the packet's tag (R257). -/
def State.isDup (s : State) (k : Packet) : Bool :=
  s.fabric.windows.any (fun e => e.of k && e.tag = k.tag && s.young e.time)

/-- The packet's tag enters its source's window; a full window evicts its oldest entry, and DEDUP_YOUNG is logged where
that one is young (R257). -/
def acceptTag (k : Packet) (s : State) : State :=
  let keep := s.fabric.windows.filter (fun e => !(e.of k && e.tag = k.tag))
  let mine := keep.filter (fun e => e.of k)
  let put := fun (l : List DedupEntry) (s : State) =>
    { s with fabric := { s.fabric with windows := l ++ [{ src := k.src, sunit := k.sunit, tag := k.tag, time := s.now }] } }
  if mine.length < 1024 then put keep s
  else match mine.head? with
    | none => put keep s
    | some old =>
      let s := if s.young old.time then (s.fabStatus 2).flogPush 2 0x52 old.src old.tag else s
      put (keep.erase old) s

/-- A packet of a deduplicated type: acknowledged only as a duplicate, or accepted with its effect and acknowledged
(R254, R257). -/
def dedup (pos : Nat) (k : Packet) (effect : State → State) (s : State) : State :=
  if s.isDup k then gatherAck k.src k.sunit k.tag pos (s.fabCount 6)
  else gatherAck k.src k.sunit k.tag pos (effect (acceptTag k s))

/-- The quay that a packet to the stack concerns is in RESET or SCRUB (R177, R260). -/
def State.discards (s : State) (q : Nat) : Bool := (s.quay q).st = .reset || (s.quay q).st = .scrub

/-- The 38-bit stack address of RADDR. -/
def packetAt (k : Packet) : Nat := sadr k.raddr.toNat

/-- Cases 9 and 10 of R260 and R390 for n bytes at the RADDR of a packet to the stack. -/
def stackCase (s : State) (k : Packet) (n : Nat) : Option Nat :=
  let a := packetAt k
  if (s.checkStack a n).isSome then some 0x4D
  else if s.discards (saQuay a) then some 0x4E
  else if (s.tenantBad none (s.eidTenant k.dst) a (n / 64)).isSome then some 0xDB
  else none

/-- A WRITE to the stack (R149, R254). -/
def writeAtStack (k : Packet) (s : State) : State :=
  let a := packetAt k
  match stackCase s k (64 * k.plen.toNat) with
  | some c => dropPacket (k.position 0) c k s
  | none => dedup (k.position 0) k (fun s => (s.writeStack a k.body).arrive (saQuay a) k.rcnt.toNat) s

/-- The READ_RSP to a READ_REQ (R239, R246). -/
def readRsp (k : Packet) (bs : List Byte) (s : State) : Packet :=
  newPacket s 3 ((k.vc.toNat + 2) % 4) k.src k.sunit.toNat 0 k.arg.toNat k.tag 0 bs

/-- In the end-to-end regime the source egress keeps a copy of a READ_RSP, which no ACK answers (R259). -/
def keepCopy (pos : Nat) (k : Packet) (s : State) : State :=
  if s.e2eMode then
    let o : OutPkt := { send := 0, pkt := k, acks := 0, resends := 0, lastSent := s.now, start := pos }
    { s with fabric := { s.fabric with copies := s.fabric.copies ++ [o] } }
  else s

/-- The answer to a READ_REQ (R246, R254, R259). -/
def answerRead (pos : Nat) (k : Packet) (bs : List Byte) (s : State) : State :=
  originate pos (readRsp k bs s) (keepCopy pos (readRsp k bs s) s)

/-- A READ_REQ to the stack (R123, R254). -/
def readAtStack (k : Packet) (s : State) : State :=
  let a := packetAt k
  let n := 64 * (k.arg.toNat + 1)
  match stackCase s k n with
  | some c => dropPacket (k.position 0) c k s
  | none =>
    let r := s.readStack a n
    match r.2.2 with
    | some bad => dropPacket (k.position 0) (ueCode bad) k r.1
    | none => answerRead (k.position 0) k r.2.1 r.1

/-- A READ_REQ to the silo controller (R374). -/
def readAtSilo (k : Packet) (s : State) : State :=
  let a := k.raddr.toNat * 1024
  let n := 64 * (k.arg.toNat + 1)
  match s.slotAt a n with
  | some (i, x) =>
    if x.st = .sealed && (x.kind = 1 || x.kind = 2) then
      if s.badPage a n then dropPacket siloRouter 0xE0 k (s.slogPush 0xE0 i a)
      else answerRead siloRouter k (s.silo.mem.read a n) s
    else dropPacket siloRouter 0x4D k s
  | none => dropPacket siloRouter 0x4D k s

/-! ### Source (R253, R255, R259) -/

/-- The outstanding packet of a source unit with a tag (R253). -/
def State.findOut (s : State) (unit : Nat) (tag : W32) : Option OutPkt :=
  if unit < 144 then ((s.quay unit).outs (fld tag.toNat 31 1)).find? (fun o => o.pkt.tag = tag)
  else if unit = 0xF0 then s.fabric.pilotOut.find? (fun o => o.pkt.tag = tag)
  else none

/-- An outstanding packet changed. -/
def putOut (unit : Nat) (o : OutPkt) (s : State) : State :=
  let upd := fun (l : List OutPkt) => l.map (fun p => if p.pkt.tag = o.pkt.tag then o else p)
  if unit < 144 then
    let g := fld o.pkt.tag.toNat 31 1
    let x := s.quay unit
    s.setQuay unit (x.setOuts g (upd (x.outs g)))
  else { s with fabric := { s.fabric with pilotOut := upd s.fabric.pilotOut } }

/-- A packet that the pilots sent completes: the mailbox command that waits for it completes too (R280). -/
def completePilot (o : OutPkt) (lost : Bool) (s : State) : State :=
  let s := { s with fabric := { s.fabric with pilotOut := s.fabric.pilotOut.filter (fun p => p.pkt.tag != o.pkt.tag) } }
  let s := if lost then s.fabCount 4 else s
  match s.serve.waits.find? (fun w => w.tag = o.pkt.tag) with
  | none => s
  | some w =>
    let s := { s with serve := { s.serve with waits := s.serve.waits.filter (fun v => v.tag != w.tag) } }
    s.cqPush (cqDone w.cmdId w.opc w.ring (if lost then 0xDF else 0) 0xFFFF 0 0)

/-- An outstanding packet completes, as success or LOST. -/
def complete (unit : Nat) (o : OutPkt) (lost : Bool) (s : State) : State :=
  if unit < 144 then completePacket unit (fld o.pkt.tag.toNat 31 1) o lost s else completePilot o lost s

/-- An answer whose tag is no longer outstanding (R253). -/
def lateAck (s : State) : State := (s.fabCount 5).fabStatus 4

/-- One acknowledged tag: an MCAST packet completes with its last ACK; a READ_REQ is not completed by an ACK. -/
def ackTag (unit : Nat) (s : State) (tag : W32) : State :=
  match s.findOut unit tag with
  | none => lateAck s
  | some o =>
    if o.pkt.typ = 2 then s
    else if o.acks ≤ 1 then complete unit o false s
    else putOut unit { o with acks := o.acks - 1 } s

/-- The copy that the egress keeps of a READ_RSP to a source unit under a tag (R259). -/
def State.findCopy (s : State) (unit : Nat) (tag : W32) : Option OutPkt :=
  s.fabric.copies.find? (fun o => o.pkt.tag = tag && o.pkt.sunit.toNat = unit)

/-- A copy goes. -/
def dropCopy (o : OutPkt) (s : State) : State :=
  { s with fabric := { s.fabric with copies := s.fabric.copies.erase o } }

/-- The tags of an ACK packet (R254). -/
def ackTags (k : Packet) : List W32 :=
  k.tag :: (List.range (k.arg.toNat - 1)).map (fun i => w32 (leAt k.body (4 * i) 4))

/-- The kept copy of a packet goes out again under the same tag, at most 3 times (R259). -/
def resend (unit : Nat) (o : OutPkt) (s : State) : State :=
  originate o.start o.pkt (putOut unit { o with resends := o.resends + 1, lastSent := s.now } s)

/-- The kept copy of a READ_RSP goes out again (R259). -/
def resendCopy (o : OutPkt) (s : State) : State :=
  let put := fun (p : OutPkt) => if p = o then { o with resends := o.resends + 1, lastSent := s.now } else p
  originate o.start o.pkt { s with fabric := { s.fabric with copies := s.fabric.copies.map put } }

/-- The source egress port holds a copy that it may send again (R259). -/
def State.mayResend (s : State) (o : OutPkt) : Bool := s.e2eMode && o.pkt.e2e && decide (o.resends < 3)

/-- A NACK at the source (R253, R259, R260). -/
def nackAtSource (k : Packet) (s : State) : State :=
  let s := ((s.fabCount 3).fabStatus 1).flogPush 1 k.arg.toNat (BitVec.ofNat 16 k.raddr.toNat) k.tag
  let unit := k.sunit.toNat
  match s.findOut unit k.tag with
  | none =>
    match s.findCopy unit k.tag with
    | none => lateAck s
    | some o => if k.arg = 0x4F && s.mayResend o then resendCopy o s else lateAck (dropCopy o s)
  | some o => if k.arg = 0x4F && s.mayResend o then resend unit o s else complete unit o true s

/-- A READ_RSP at the source: its data is written at LBASE and the packet completes (R149, R253). -/
def readRspAtSource (k : Packet) (s : State) : State :=
  let q := k.sunit.toNat
  match s.findOut q k.tag with
  | none => lateAck s
  | some o =>
    if o.pkt.typ != 2 then s
    else match (s.quay q).sends.find? (fun j => j.id = o.send) with
      | none => complete q o false s
      | some j =>
        let i := (k.tag.toNat + 2 ^ 31 - j.tagBase.toNat % 2 ^ 31) % 2 ^ 31
        let a := 64 * j.lbase + 4096 * i
        let s := s.writeStack (stackAddr q 0 a) (k.body.take (0x60000 - a))
        complete q o false s

/-! ### Delivery -/

/-- A WAKE packet at the module that owns DST: acknowledged and logged as IGNORED in A0 and A1 (R248). -/
def wakeAtOwner (k : Packet) (s : State) : State :=
  let s := if s.power.st = .a0 || s.power.st = .a1 then s.wlogPush 5 3 else s.wake 5
  gatherAck k.src k.sunit k.tag (atPort 0) s

/-- Delivery to a unit of this module, from case 8 of R260 on; QUENCH and UNQUENCH are delivered by `deliver`. -/
def deliverBase (u : Nat) (k : Packet) (s : State) : State :=
  if k.e2e && k.trailer.all (fun t => t.ecrc != k.ecrcOf) then dropPacket (k.position u) 0x4F k s
  else match k.typ.toNat with
    | 1 =>
      if u = 0 then writeAtStack k s
      else if u = 3 then dropPacket siloRouter 0x4D k s
      else dedup (k.position u) k (fun s => s.emit (.deliver u k)) s
    | 2 => if u = 0 then readAtStack k s else if u = 3 then readAtSilo k s else s.emit (.deliver u k)
    | 3 =>
      if k.plen.toNat != k.arg.toNat + 1 then dropPacket (k.position u) 0x4D k s
      else if k.sunit.toNat < 144 && s.discards k.sunit.toNat then dropPacket (k.position u) 0x4E k s
      else readRspAtSource k s
    | 4 => (ackTags k).foldl (ackTag k.sunit.toNat) s
    | 5 => nackAtSource k s
    | 8 =>
      if k.arg = 1 then wakeAtOwner k s
      else if u = 1 then yewericMessage k (s.emit (.yeweric k))
      else dropPacket (k.position u) 0x49 k s
    | _ => s

/-- QUENCH_k closes VC v of ingress port p, or slack-water sync has closed every data VC (R247, R314). -/
def State.vcClosed (s : State) (p : Nat) (vc : BitVec 3) : Bool :=
  vc.toNat < 4 && (s.fabric.sws != .off || s.fieldAt (kFab (0x20 + 4 * (p / 4))) (4 * (p % 4) + vc.toNat) 1 = 1)

/-- Where a packet comes from: a port's controller, or its source unit (R17, R226). -/
def ingressAt (src : Ingress) (k : Packet) : Nat :=
  match src with
  | .port p => atPort p
  | .mesh => k.origin

/-- A packet that resolves to a unit of this module is delivered by `h`, over the mesh where it must cross it (R17, R19, R247,
R250). -/
def toLocal (h : Nat → Packet → State → State) (pos u : Nat) (k : Packet) (s : State) : State :=
  if k.actsAtIngress u then h u k s
  else if s.reaches pos (k.position u) then
    h u k (meshAdapt (decide (k.vc.toNat < 4)) (meshEntry pos) (k.position u) s)
  else s

/-- A packet that has passed the ingress: routed, and delivered by `h`, forwarded or dropped (R250, R260). -/
def routeIn (h : Nat → Packet → State → State) (pos : Nat) (k : Packet) (s : State) : State :=
  let k := popLocal 4 s k
  match decideHop s k with
  | .drop c => dropPacket pos c k s
  | .unit u => toLocal h pos u k s
  | .out p d w => if s.reachesPort pos p then leaveOrWake p d w k (toPort pos p k s) else s
  | .wait p => if s.reachesPort pos p then enqueue p (leaving k false none) (toPort pos p k s) else s
  | .mcast r =>
    let s := toPorts pos r k s
    if bitAt r.w3.toNat 0 then toLocal h pos r.unit k s else s

/-- A packet is parsed for the first time: cases 1 to 4 of R260, then its route. -/
def parseIn (h : Nat → Packet → State → State) (pos : Nat) (k : Packet) (s : State) : State :=
  match k.headerCase with
  | some c => dropPacket pos c k s
  | none => routeIn h pos k s

/-- A packet that came over the mesh to its unit is checked and delivered; it is not routed or replicated again (R250, R252,
R260). -/
def arriveIn (h : Nat → Packet → State → State) (k : Packet) (s : State) : State :=
  let r := s.route (popLocal 4 s k).routingEid
  match k.headerCase with
  | some c => dropPacket (k.position r.unit) c k s
  | none =>
    if r.kind = 2 || (r.kind = 3 && bitAt r.w3.toNat 0) then h r.unit (popLocal 4 s k) s
    else dropPacket (k.position r.unit) 0x4A k s

/-- A port's ingress buffer holds a packet no more: its credits go back to the partner (R243, R244). -/
def freeIngress (p : Nat) (k : Packet) (s : State) : State :=
  let x := s.port p
  s.setPort p { x with owed := tabSet x.owed k.vc.toNat (tabGet x.owed k.vc.toNat 0 + k.need) }

/-- Packets held by a closed port whose VC is open again pass on in order (R247). -/
def releaseHeld (p : Nat) (s : State) : State :=
  let x := s.port p
  let go := x.held.filter (fun k => !s.vcClosed p k.vc)
  let s := s.setPort p { x with held := x.held.filter (fun k => s.vcClosed p k.vc) }
  go.foldl (fun s k => parseIn deliverBase (atPort p) k (freeIngress p k s)) s

/-- Every port releases what it need not hold. -/
def releaseAll (s : State) : State := (List.range 16).foldl (fun s p => releaseHeld p s) s

/-- The data VCs of a mask are closed or opened on the ports of a mask (R247). -/
def quenchMask (ports vcs : Nat) (close : Bool) (s : State) : State :=
  let s := (maskPorts ports).foldl (fun s p =>
    let k := kFab (0x20 + 4 * (p / 4))
    let old := s.fieldAt k (4 * (p % 4)) 4
    s.setField k (4 * (p % 4)) 4 (if close then old ||| vcs else old - (old &&& vcs))) s
  releaseAll s

/-- Delivery to a unit of this module: QUENCH and UNQUENCH act on its ports and are acknowledged like a signal (R247). -/
def deliver (u : Nat) (k : Packet) (s : State) : State :=
  if k.typ = 6 || k.typ = 7 then
    if k.e2e && k.trailer.all (fun t => t.ecrc != k.ecrcOf) then dropPacket (k.position u) 0x4F k s
    else dedup (atPort 0) k (quenchMask (fld k.raddr.toNat 0 16) (fld k.raddr.toNat 16 4) (k.typ = 6)) s
  else deliverBase u k s

/-- A packet arrives by a port or over the mesh, where one that is on its way to a unit of this module reaches it and another
is new from its source unit. A port that is not UP discards it without count (R223); a closed VC holds it in the port's buffer,
whose credits then wait (R247). -/
def packetIn (src : Ingress) (k : Packet) (s : State) : State :=
  match src with
  | .mesh =>
    if s.fabric.mesh.contains k then
      arriveIn deliver k { s with fabric := { s.fabric with mesh := s.fabric.mesh.erase k } }
    else parseIn deliver (ingressAt src k) k s
  | .port p =>
    let x := s.port p
    let s := s.setPort p { x with rxPkts := x.rxPkts.erase k.bytes }
    if x.st != .up then s
    else if s.vcClosed p k.vc then
      let x := s.port p
      s.setPort p { x with held := x.held ++ [k] }
    else parseIn deliver (ingressAt src k) k (freeIngress p k s)

/-- A packet command names its packet's type; another type leaves the state as it is (entry 5). -/
def typedIn (t : Nat) (src : Ingress) (k : Packet) (s : State) : State := if k.typ.toNat = t then packetIn src k s else s

/-- A WRITE arrives (R254). -/
def execWriteRx (src : Ingress) (k : Packet) (s : State) : Res := .next (typedIn 1 src k s)
/-- A READ_REQ arrives (R254). -/
def execReadReqRx (src : Ingress) (k : Packet) (s : State) : Res := .next (typedIn 2 src k s)
/-- A READ_RSP arrives (R253). -/
def execReadRspRx (src : Ingress) (k : Packet) (s : State) : Res := .next (typedIn 3 src k s)
/-- An ACK arrives (R253). -/
def execAckRx (src : Ingress) (k : Packet) (s : State) : Res := .next (typedIn 4 src k s)
/-- A NACK arrives (R253). -/
def execNackRx (src : Ingress) (k : Packet) (s : State) : Res := .next (typedIn 5 src k s)
/-- A QUENCH arrives (R247). -/
def execQuenchRx (src : Ingress) (k : Packet) (s : State) : Res := .next (typedIn 6 src k s)
/-- An UNQUENCH arrives (R247). -/
def execUnquenchRx (src : Ingress) (k : Packet) (s : State) : Res := .next (typedIn 7 src k s)
/-- A CTRL packet of kind WAKE arrives (R248). -/
def execCtrlWakeRx (src : Ingress) (k : Packet) (s : State) : Res :=
  .next (if k.arg.toNat < 128 then typedIn 8 src k s else s)
/-- A CTRL packet with a Yeweric message arrives (R248). -/
def execYewericMessageRx (src : Ingress) (k : Packet) (s : State) : Res :=
  .next (if 128 ≤ k.arg.toNat then typedIn 8 src k s else s)
/-- A packet of any type is checked, looked up and forwarded, detoured, popped, delivered or dropped (R250). -/
def execPacketForward (src : Ingress) (k : Packet) (s : State) : Res := .next (packetIn src k s)

/-! ### Timed events -/

/-- An outstanding packet reaches the completion timeout, measured from its TS: LOST (R253). The copy of a READ_RSP goes with
its answer's time (R259). -/
def execCompletionTimeout (unit : Nat) (tag : W32) (s : State) : Res :=
  .next (match s.findOut unit tag with
    | none =>
      match s.findCopy unit tag with
      | none => s
      | some o => dropCopy o (s.passTo (o.pkt.ts + w64 s.cto))
    | some o => complete unit o true (s.passTo (o.pkt.ts + w64 s.cto)))

/-- The gathering window of a source unit ends: one ACK packet leaves (R254). -/
def execAckGatherEnd (eid : W16) (sunit : Byte) (s : State) : Res :=
  .next (match s.fabric.gathers.find? (fun g => g.eid = eid && g.sunit = sunit) with
    | none => s
    | some g =>
      let s := s.passTo (g.since + 32)
      sendAck g { s with fabric := { s.fabric with gathers := s.fabric.gathers.filter (fun h => !(h.eid = eid && h.sunit = sunit)) } })

/-- A quarter of the completion timeout has passed without an answer (R259). -/
def execE2eResend (unit : Nat) (tag : W32) (s : State) : Res :=
  .next (match s.findOut unit tag with
    | none =>
      match s.findCopy unit tag with
      | none => s
      | some o => if s.mayResend o then resendCopy o (s.passTo (o.lastSent + w64 (s.cto / 4))) else s
    | some o => if s.mayResend o then resend unit o (s.passTo (o.lastSent + w64 (s.cto / 4))) else s)

/-- The packet of a port that R262 speaks of under a tag: the oldest of the retry buffer, then of the egress queue, then of the
quenched ingress buffer; sources may use one tag, so it is one packet and not the tag that goes. -/
def Port.oldest (x : Port) (tag : W32) : Option Packet :=
  (x.retry.map (·.2) ++ x.egress ++ x.held).find? (fun k => k.tag = tag)

/-- One packet leaves the buffer that holds it; a held packet gives its credits back (R244, R262). -/
def dropHeldPacket (p : Nat) (k : Packet) (s : State) : State :=
  let x := s.port p
  match x.retry.find? (fun r => r.2 = k) with
  | some r => s.setPort p { x with retry := x.retry.erase r }
  | none =>
    if x.egress.contains k then s.setPort p { x with egress := x.egress.erase k }
    else freeIngress p k (s.setPort p { x with held := x.held.erase k })

/-- A held packet exceeds the completion timeout: discarded, counted and logged (R262). -/
def execStranded (p : Nat) (tag : W32) (s : State) : Res :=
  .next (match (s.port p).oldest tag with
    | none => s
    | some k =>
      let s := dropHeldPacket p k (s.passTo (k.ts + w64 (s.cto + 1)))
      (((s.fabCount 7).fabStatus 3).flogPush 2 0x53 k.src tag))

/-- QUENCH_k written, and what it opens released (R247, R264). -/
def quenchStore (k : Nat) (f : W32 × W32) (s : State) : State :=
  releaseAll (s.setReg (kFab (0x20 + 4 * k)) (w32 (getBits (mergeBits (s.reg (kFab (0x20 + 4 * k))) f) 0 16)))

/-- A write of QUENCH_k by the MASK form of the route block (R421). -/
def execQuenchRegWrite (k : Nat) (data : W32) (s : State) : Res := .next (quenchStore (k % 4) (writeForm true false data) s)

/-- FLOG_POP (R264). -/
def execFlogPop (s : State) : Res := .next { s with fabLog := s.fabLog.drop 1 }

/-- FAB_CNT_CTRL.CLR (R264). -/
def execFabCntClr (s : State) : Res := .next (s.clear64 (kFab 0x30) 0x40)

end Sys2Proof.Machine
end

