-- ==== Sys2Proof/Machine/Image.lean ====
section
/-! DEFINITION. The chart image: header, directory and section layouts (R198 to R209, R333, R388, R395), and the
consistency check of R211 in the order of its codes. -/

namespace Sys2Proof.Machine

/-- A directory entry (R199). -/
structure DirEnt where
  typ : Nat
  rsv : Nat
  off : Nat
  len : Nat
  crc : Nat
deriving DecidableEq, Repr

/-- Bytes of an image. -/
abbrev Img := List Byte

/-- k records of n bytes. -/
def records (n : Nat) : Nat → List Byte → List (List Byte)
  | 0, _ => []
  | k + 1, bs => bs.take n :: records n k (bs.drop n)

/-- A section as records of n bytes. -/
def recordsOf (n : Nat) (bs : List Byte) : List (List Byte) := records n (ceilDiv bs.length n) bs

/-- Bytes lo to hi read 0. -/
def zeros (bs : List Byte) (lo hi : Nat) : Bool := (slice bs lo (hi + 1 - lo)).all (fun b => b = 0)

/-- Bits of a mask in byte i read 0. -/
def clearBits (bs : List Byte) (i m : Nat) : Bool := (leAt bs i 1) &&& m = 0

/-- n bytes from offset a replaced by 0. -/
def blanked (bs : List Byte) (a n : Nat) : List Byte := bs.take a ++ List.replicate n 0 ++ bs.drop (a + n)

/-! ### Header and directory -/

/-- IMAGE_LEN. -/
def imgLen (h : Img) : Nat := leAt h 24 4
/-- NSECT. -/
def nsect (h : Img) : Nat := leAt h 28 2
/-- FLAGS.SW, FLAGS.SIGNED, FLAGS.ALTERNATE. -/
def imgSw (h : Img) : Bool := bitAt (leAt h 30 1) 0
/-- FLAGS.SIGNED. -/
def imgSigned (h : Img) : Bool := bitAt (leAt h 30 1) 1
/-- FLAGS.ALTERNATE. -/
def imgAlternate (h : Img) : Bool := bitAt (leAt h 30 1) 2

/-- The directory. -/
def dirOf (img : Img) : List DirEnt :=
  (List.range (nsect img)).map (fun i =>
    let e := 64 + 16 * i
    { typ := leAt img e 1, rsv := leAt img (e + 1) 3, off := leAt img (e + 4) 4, len := leAt img (e + 8) 4,
      crc := leAt img (e + 12) 4 })

/-- The entry of a section type. -/
def secEnt (img : Img) (t : Nat) : Option DirEnt := (dirOf img).find? (fun e => e.typ = t)

/-- The bytes of a section, empty where it is absent. -/
def secOf (img : Img) (t : Nat) : List Byte :=
  match secEnt img t with
  | some e => slice img e.off e.len
  | none => []

/-- Image byte at which a section begins. -/
def secAt (img : Img) (t : Nat) : Nat := ((secEnt img t).map (·.off)).getD 0

/-- Two ranges share a byte. -/
def rangesMeet (a b : Nat × Nat) : Bool :=
  a.2 != 0 && b.2 != 0 && decide (a.1 < b.1 + b.2) && decide (b.1 < a.1 + a.2)

/-- Some two ranges of a list share a byte. -/
def anyMeet : List (Nat × Nat) → Bool
  | [] => false
  | r :: rs => rs.any (rangesMeet r) || anyMeet rs

/-- Section types that every image has (R200). -/
def requiredTypes : List Nat := [1, 2, 3, 4, 5, 6, 7, 8, 10, 11]
/-- Section types this image must have, and no others. -/
def wantedTypes (h : Img) : List Nat :=
  requiredTypes ++ (if imgSw h then [9] else []) ++ (if imgSigned h then [15] else [])

/-- 0xA0 FORMAT (R198). -/
def formatBad (h : Img) : Bool :=
  leAt h 0 4 != 0x43524854 || leAt h 4 2 != 1 || imgLen h < 64 || 16777216 < imgLen h || nsect h < 1 || 16 < nsect h

/-- 0xA1 IMAGE_CRC. -/
def imageCrcBad (img : Img) : Bool := (crc32c (blanked img 36 4)).toNat != leAt img 36 4

/-- 0xA2 DIRECTORY (R199, R200). -/
def directoryBad (img : Img) : Bool :=
  let d := dirOf img
  let dend := 64 + 16 * nsect img
  let types := d.map (·.typ)
  decide (imgLen img < dend) || !types.all (fun t => (wantedTypes img).contains t) ||
  !(wantedTypes img).all (fun t => types.contains t) || decide (types.length != (wantedTypes img).length) ||
  d.any (fun e => e.off % 64 != 0 || decide (e.off < dend) || decide (imgLen img < e.off + e.len)) ||
  anyMeet (d.map (fun e => (e.off, e.len)))

/-- 0xA3 SECTION_CRC. -/
def sectionCrcBad (img : Img) : Bool := (dirOf img).any (fun e => (crc32c (slice img e.off e.len)).toNat != e.crc)

/-! ### Logbook records (R206) -/

/-- The records of a LOGBOOKS section from an offset, each with whether its reserved bytes are 0; the flag says that no
record ran past the section. `at'` is the image byte at which the section begins. -/
def logWalk (at' : Nat) (s : List Byte) : Nat → Nat → List (LogRec × Bool) × Bool
  | 0, pos => ([], decide (s.length ≤ pos))
  | n + 1, pos =>
    if s.length ≤ pos then ([], true)
    else
      let len := leAt s (pos + 2) 2
      let fin := pos + 320 + 16 * len
      let next := 64 * ceilDiv fin 64
      if s.length < next then ([], false)
      else
        let r : LogRec :=
          { quay := leAt s pos 1, lag := leAt s (pos + 1) 1 % 16, len := len, start := leAt s (pos + 4) 2,
            sbLimit := leAt s (pos + 6) 2, params := (List.range 64).map (fun i => w32 (leAt s (pos + 64 + 4 * i) 4)),
            code := at' + pos + 320 }
        let ok := clearBits s (pos + 1) 0xF0 && zeros s (pos + 8) (pos + 63) && (slice s fin (next - fin)).all (fun b => b = 0)
        let rest := logWalk at' s n next
        ((r, ok) :: rest.1, rest.2)

/-- The records of an image's LOGBOOKS section. -/
def logRecords (img : Img) : List (LogRec × Bool) × Bool :=
  let s := secOf img 5
  logWalk (secAt img 5) s (s.length / 320 + 1) 0

/-! ### Reserved fields (0xA4) -/

/-- The reserved fields of one section read 0. -/
def secClean (img : Img) (t : Nat) : Bool :=
  let s := secOf img t
  match t with
  | 1 => zeros s 38 39 && zeros s 49 63
  | 2 => zeros s 9 15 && (recordsOf 8 (s.drop 16)).all (fun e => clearBits e 5 0xFE && zeros e 6 7)
  | 3 => (recordsOf 32 s).all (fun e => clearBits e 19 0x70 && zeros e 20 31)
  | 4 => (recordsOf 32 s).all (fun e => clearBits e 2 0xFE && zeros e 3 3 && zeros e 20 31)
  | 5 => (logRecords img).1.all (·.2)
  | 6 => (recordsOf 16 s).all (fun e =>
      zeros e 2 3 && zeros e 6 7 && zeros e 10 11 && clearBits e 12 0xFE && zeros e 13 15)
  | 7 => (recordsOf 4 s).all (fun e => clearBits e 3 0xF0)
  | 8 => zeros s 1 63 && zeros s 112 127 && (s.drop 256).all (fun b => b.toNat &&& 0xC0 = 0)
  | 9 => zeros s 2 63
  | 10 => zeros s 3 63
  | 11 => clearBits s 1 0xF8 && clearBits s 4 0xFC && zeros s 5 63
  | 15 => zeros s 1 31
  | _ => true

/-- 0xA4 RESERVED. -/
def reservedBad (img : Img) : Bool :=
  !(clearBits img 30 0xF8 && zeros img 31 31 && zeros img 40 63 && (dirOf img).all (fun e => e.rsv = 0) &&
    (wantedTypes img).all (secClean img))

/-! ### Hardware tests 0xA5 to 0xA8 -/

/-- 0xA5 MEMBER. -/
def memberBad (img : Img) : Bool := leAt img 6 1 != 9

/-- Enabled quays. -/
def State.enabledCount (s : State) : Nat := ((List.range 144).filter (fun q => s.qen.getLsbD q)).length

/-- 0xA6 GRADE (R198, R352). -/
def gradeBad (s : State) (img : Img) : Bool :=
  let g := leAt img 7 1
  (g != 136 && g != 128) || g != s.enabledCount

/-- 0xA7 UNIT_MAP (R203). -/
def unitMapBad (s : State) (img : Img) : Bool :=
  let t := secOf img 1
  t.length != 64 || leAt t 0 18 != (~~~s.qen).toNat || leAt t 18 18 != s.rbad.toNat || leAt t 36 2 != s.pbad.toNat ||
  leAt t 46 2 < 1 || 4096 < leAt t 46 2 || leAt t 48 1 < 1 || 63 < leAt t 48 1

/-- An owner key is present: recorded, matching its fuse, not revoked (R392, R396). -/
def State.ownerKey (s : State) (k : Nat) : Option (List Byte) :=
  match tabFind s.silo.keys k, tabFind s.fuses.ownerHash k with
  | some key, some h => if Config.sha384 key = h && !s.fuses.revoke.getLsbD k then some key else none
  | _, _ => none

/-- Directory index of the SIGNATURE section. -/
def sigIndex (img : Img) : Nat := ((dirOf img).takeWhile (fun e => e.typ != 15)).length

/-- What the signature covers (R395). -/
def signedBytes (img : Img) : List Byte :=
  blanked (blanked (blanked img 36 4) (64 + 16 * sigIndex img + 12) 4) (secAt img 15 + 32) 96

/-- 0xA8 SIGNATURE (R395, R396). -/
def signatureBad (s : State) (img : Img) : Bool :=
  if !imgSigned img then s.fieldAt 0x300 0 1 = 1
  else
    let g := secOf img 15
    g.length != 128 || 3 < leAt g 0 1 ||
    (match s.ownerKey (leAt g 0 1) with
     | some key => !Config.ecdsaVerify key (signedBytes img) (slice g 32 96)
     | none => true)

/-- The hardware tests in order (R211). -/
def hardwareCheck (s : State) (img : Img) : Option Nat :=
  if formatBad img then some 0xA0
  else if imageCrcBad img then some 0xA1
  else if directoryBad img then some 0xA2
  else if sectionCrcBad img then some 0xA3
  else if reservedBad img then some 0xA4
  else if memberBad img then some 0xA5
  else if gradeBad s img then some 0xA6
  else if unitMapBad s img then some 0xA7
  else if signatureBad s img then some 0xA8
  else none

/-! ### Section contents -/

/-- The firmware copy that runs (R393). -/
def State.firmware (s : State) : Firmware := if s.silo.runB then s.silo.fwB else s.silo.fwA

/-- The phases of a TIDE section (R201). -/
def phasesOf (t : List Byte) : List Phase :=
  ((recordsOf 8 (t.drop 16)).take (leAt t 2 1)).map (fun e =>
    { start := leAt e 0 4, tokset := leAt e 4 1, prefill := bitAt (leAt e 5 1) 0 })

/-- The basins of a BASINS section (R204). -/
def basinsOf (b : List Byte) : List Basin :=
  (recordsOf 32 b).map (fun e =>
    { quays := (List.range 144).filter (fun q => bitAt (leAt e 0 18) q), tenant := BitVec.ofNat 12 (leAt e 18 2),
      elastic := bitAt (leAt e 18 2) 15 })

/-- The descriptors of a SHARDS section (R205). -/
def shardsOf (b : List Byte) : List Shard :=
  (recordsOf 32 b).map (fun e =>
    { zero := leAt e 0 1 = 1, slot := leAt e 1 1, keep := bitAt (leAt e 2 1) 0, sofs := leAt e 4 8,
      dst := w32 (leAt e 12 4), len := leAt e 16 4 })

/-- The owned EIDs of an EIDS section (R388). -/
def eidsOf (b : List Byte) : List (W16 × BitVec 12) :=
  (recordsOf 4 b).map (fun e => (BitVec.ofNat 16 (leAt e 0 2), BitVec.ofNat 12 (leAt e 2 2)))

/-- The windows of a REFRESH section (R209). -/
def windowsOf (b : List Byte) : List Window :=
  ((recordsOf 8 (b.drop 64)).take (leAt b 1 1)).map (fun e =>
    { start := leAt e 0 4, slots := leAt e 4 2, len := leAt e 6 2 })

/-- The chart an image describes. -/
def chartOf' (img : Img) : Chart :=
  let tg := secOf img 1
  let t := secOf img 2
  let pw := secOf img 8
  let ct := secOf img 10
  let md := secOf img 11
  let rf := secOf img 9
  { id := w64 (leAt img 8 8), parent := w64 (leAt img 16 8), sw := imgSw img, alternate := imgAlternate img,
    home := BitVec.ofNat 16 (leAt tg 44 2), flood := leAt tg 48 1, period := leAt t 0 2, slackRetry := leAt t 3 1,
    slackTime := leAt t 4 1, elasticMax := leAt t 5 1, extStep := leAt t 6 1, extMax := leAt t 7 1,
    decide := leAt t 8 1, phases := phasesOf t, basins := basinsOf (secOf img 3), shards := shardsOf (secOf img 4),
    logbooks := (logRecords img).1.map (·.1), routesAt := secAt img 6, eids := eidsOf (secOf img 7),
    est := (List.range 64).map (fun k => leAt pw (128 + 2 * k) 2), tokens := recordsOf 144 (pw.drop 256),
    tokenBytes := leAt ct 0 2, layers := leAt ct 2 1, blockMode := BitVec.ofNat 11 (leAt md 0 2), cto := leAt md 2 2,
    adaptMesh := bitAt (leAt md 4 1) 0, adaptFabric := bitAt (leAt md 4 1) 1, refreshClass := leAt rf 0 1,
    windows := windowsOf rf }

/-! ### Firmware tests 0xA9 to 0xB4 -/

/-- A BLOCK_MODE value that R419 reserves. -/
def blockModeBad (v : Nat) : Bool := fld v 4 1 != 1 || fld v 6 1 != 1 || fld v 7 1 != 0

/-- 0xAA MODE (R208). -/
def modeBad (s : State) (img : Img) (c : Chart) : Bool :=
  decide (bit c.sw != s.fieldAt 0x80 0 1) || (secOf img 11).length != 64 || blockModeBad c.blockMode.toNat ||
  c.cto < 1 || 1000 < c.cto

/-- Values that rise strictly. -/
def rising : List Nat → Bool
  | a :: b :: t => decide (a < b) && rising (b :: t)
  | _ => true

/-- 0xAB TIDE_BAD (R186, R188, R196, R201). -/
def tideBad (img : Img) (c : Chart) : Bool :=
  let t := secOf img 2
  let n := leAt t 2 1
  let starts := c.phases.map (·.start)
  t.length != 16 + 8 * n || n < 1 || 64 < n || c.period < 8 || 4096 < c.period || 15 < c.slackRetry ||
  c.extStep < 1 || 16 < c.extStep || c.extMax < 1 || 64 < c.extMax || c.decide < 2 || 64 < c.decide ||
  decide (c.period ≤ c.decide) || decide (c.decide < c.flood + 1) || (c.sw && c.elasticMax != 0) ||
  decide (c.slackTime < c.elasticMax) || starts.headD 1 != 0 || !rising starts ||
  decide (160 * (c.period - c.elasticMax) ≤ (starts.getLast?).getD 0)

/-- 0xAC BASIN (R204). -/
def basinBad (s : State) (img : Img) (c : Chart) : Bool :=
  let b := secOf img 3
  let qs := (c.basins.map (·.quays)).flatten
  b.length < 32 || 512 < b.length || b.length % 32 != 0 || c.basins.any (fun x => x.quays.isEmpty) ||
  qs.any (fun q => !s.enabled q) || (List.range 144).any (fun q => decide (1 < qs.count q))

/-- The basin of a quay. -/
def Chart.basinOf (c : Chart) (q : Nat) : Option Basin := c.basins.find? (fun b => b.quays.contains q)

/-- 0xAD LOGBOOK (R202, R206). -/
def logbookBad (s : State) (img : Img) (c : Chart) : Bool :=
  !(logRecords img).2 || !rising (c.logbooks.map (·.quay)) ||
  c.logbooks.any (fun r => decide (143 < r.quay) || r.len < 1 || 4096 < r.len || decide (r.len ≤ r.start) ||
    !s.enabled r.quay || (c.basinOf r.quay).isNone)

/-- A COPY descriptor's slot is SEALED, of kind SHARD or HOST, and covers the bytes (R205, R371). -/
def shardSlotOk (s : State) (d : Shard) : Bool :=
  let x := s.slotRec d.slot
  x.st = .sealed && (x.kind = 1 || x.kind = 4) && decide (d.sofs + d.len ≤ 1024 * x.len1k)

/-- 0xAE SHARD (R205). -/
def shardBad (s : State) (isSwitch : Bool) (img : Img) (c : Chart) : Bool :=
  let b := secOf img 4
  b.length < 32 || 2097152 < b.length || b.length % 32 != 0 || (recordsOf 32 b).any (fun e => 1 < leAt e 0 1) ||
  c.shards.any (fun d =>
    d.len % 64 != 0 || d.len < 64 || 201326592 < d.len || d.sofs % 64 != 0 || (d.keep && !isSwitch) ||
    (if d.zero then d.slot != 0 || d.sofs != 0 else !shardSlotOk s d) ||
    (s.checkStack (sadr d.dst.toNat) d.len).isSome) ||
  anyMeet (c.shards.map (fun d => (sadr d.dst.toNat, d.len)))

/-- What the check of a successor compares it with (R211, R214): CHART_ID and the container fields of the running chart, or of
the one that a switch refused as LATE was to follow. -/
def State.parentChart (s : State) : Option (W64 × Nat × Nat) :=
  match s.tide.chart with
  | some c => some (c.id, c.tokenBytes, c.layers)
  | none => s.tide.late.map (·.2)

/-- The check, the load and the start are those of a successor: of a switch, or of one that is taken up again (R214). -/
def Submission.follows (sub : Submission) : Bool := sub.isSwitch || sub.again

/-- 0xAF CONTAINER (R116, R207). -/
def containerBad (s : State) (isSwitch : Bool) (img : Img) (c : Chart) : Bool :=
  (secOf img 10).length != 64 || c.tokenBytes % 64 != 0 || c.tokenBytes < 64 || 4096 < c.tokenBytes ||
  c.layers < 1 || 16 < c.layers ||
  (isSwitch && s.parentChart.any (fun r => r.2 != (c.tokenBytes, c.layers)))

/-- A route entry of 16 bytes (R249). -/
def routeOf (e : List Byte) : Route :=
  { w0 := BitVec.ofNat 16 (leAt e 0 2), w1 := BitVec.ofNat 16 (leAt e 4 2), w2 := BitVec.ofNat 16 (leAt e 8 2),
    w3 := BitVec.ofNat 16 (leAt e 12 2) }

/-- One route entry breaks 0xB0. -/
def routeEntryBad (s : State) (owned : Bool) (r : Route) : Bool :=
  (bitAt r.w0.toNat 12 && !r.adapt) ||
  (r.kind = 1 && (s.portDead r.primary || r.detour.any s.portDead)) ||
  (r.kind = 3 && (maskPorts r.w1.toNat).any s.portDead) ||
  ((r.kind = 2 || (r.kind = 3 && bitAt r.w3.toNat 0)) && (!owned || 3 < r.unit))

/-- 0xB0 ROUTE. -/
def routeBad (s : State) (img : Img) (c : Chart) : Bool :=
  let b := secOf img 6
  b.length != 1048576 ||
  ((recordsOf 16 b).zipIdx).any (fun e => !zeros e.1 0 15 && routeEntryBad s (c.eids.any (fun x => x.1.toNat = e.2)) (routeOf e.1))

/-- An EID appears twice. -/
def repeated : List W16 → Bool
  | [] => false
  | e :: es => es.contains e || repeated es

/-- 0xB1 EID (R203, R388). The unit of an EID is that of its LOCAL route entry. -/
def eidBad (img : Img) (c : Chart) : Bool :=
  (secOf img 7).length % 4 != 0 || repeated (c.eids.map (·.1)) ||
  c.eids.any (fun e =>
    let r := routeOf (slice img (c.routesAt + 16 * e.1.toNat) 16)
    r.kind = 2 && r.unit != 0 && e.2 != 0) ||
  !(c.eids.any (fun e => e.1 = c.home))

/-- Region of a quay (R333). -/
def regionOf (q : Nat) : Nat := 4 * (q / 36) + (q % 12) / 3

/-- Sum of a field of the token bytes of a region in one set. -/
def regionSum (set : List Byte) (lo w r : Nat) : Nat :=
  ((set.zipIdx).map (fun t => if regionOf t.2 = r then fld t.1.toNat lo w else 0)).sum

/-- 0xB2 POWER (R333). -/
def powerBad (s : State) (img : Img) (c : Chart) : Bool :=
  let b := secOf img 8
  let n := leAt b 0 1
  let cap := (s.power.capStaged.map (·.toNat)).getD s.cap
  n < 1 || 64 < n || b.length != 256 + 144 * n ||
  (List.range 16).any (fun r => decide (36 < leAt b (64 + r) 1) || decide (9 < leAt b (80 + r) 1) || decide (18 < leAt b (96 + r) 1)) ||
  c.tokens.any (fun set =>
    (set.zipIdx).any (fun t => decide (4 < fld t.1.toNat 0 3) || fld t.1.toNat 4 2 = 3 || (t.1 != 0 && !s.enabled t.2)) ||
    (List.range 16).any (fun r => decide (leAt b (64 + r) 1 < regionSum set 0 3 r) || decide (leAt b (80 + r) 1 < regionSum set 3 1 r) ||
      decide (leAt b (96 + r) 1 < regionSum set 4 2 r))) ||
  (c.phases.zipIdx).any (fun p => decide (n ≤ p.1.tokset) || decide (cap < (c.est.drop p.2).headD 0))

/-- The refresh interval of a class, in ns (R127). -/
def refreshInterval (cls : Nat) : Nat := if cls = 0 then 2000000 else if cls = 1 then 1000000 else 500000

/-- Gaps from the end of each window to the start of the next, the last one's across the boundary. -/
def windowGaps (p first : Nat) : List Window → List Nat
  | [] => []
  | [w] => [first + p - (w.start + w.len)]
  | w :: v :: t => (v.start - (w.start + w.len)) :: windowGaps p first (v :: t)

/-- Windows ascend and do not overlap. -/
def windowsRise : List Window → Bool
  | w :: v :: t => decide (w.start + w.len ≤ v.start) && windowsRise (v :: t)
  | _ => true

/-- 0xB3 REFRESH (R129, R209). Time is counted in qclk at 1.52 GHz. -/
def refreshBad (img : Img) (c : Chart) : Bool :=
  c.sw &&
  (let b := secOf img 9
   let n := leAt b 1 1
   let i := refreshInterval c.refreshClass
   let pns := 160 * c.period
   let p := pns * 152 / 100
   b.length != 64 + 8 * n || n < 1 || 64 < n || 2 < c.refreshClass || !windowsRise c.windows ||
   c.windows.any (fun w => w.slots < 1 || 16379 < w.slots || decide (w.len < 4 * w.slots + 16) || decide (p < w.start + w.len)) ||
   decide ((c.windows.map (·.slots)).sum < ceilDiv (3072 * pns) i) ||
   (windowGaps p ((c.windows.map (·.start)).headD 0) c.windows).any (fun g => decide (i * 152 < 400 * g)))

/-- 0xB4 PARENT (R214). -/
def parentBad (s : State) (isSwitch : Bool) (c : Chart) : Bool :=
  isSwitch && (!c.alternate || s.parentChart.any (fun r => r.1 != c.parent))

/-- The firmware tests in order (R211). -/
def firmwareCheck (s : State) (isSwitch : Bool) (img : Img) (c : Chart) : Option Nat :=
  if decide (s.firmware.version.toNat < leAt img 32 4) then some 0xA9
  else if modeBad s img c then some 0xAA
  else if tideBad img c then some 0xAB
  else if basinBad s img c then some 0xAC
  else if logbookBad s img c then some 0xAD
  else if shardBad s isSwitch img c then some 0xAE
  else if containerBad s isSwitch img c then some 0xAF
  else if routeBad s img c then some 0xB0
  else if eidBad img c then some 0xB1
  else if powerBad s img c then some 0xB2
  else if refreshBad img c then some 0xB3
  else if parentBad s isSwitch c then some 0xB4
  else none

/-- The check of R211 on an image: the code of the first failure. -/
def checkImage (s : State) (isSwitch : Bool) (img : Img) : Option Nat :=
  match hardwareCheck s img with
  | some c => some c
  | none => firmwareCheck s isSwitch img (chartOf' img)

/-- The image in a chart buffer: as long as its header says, or the header alone where that is out of range. -/
def State.imageIn (s : State) (buf : Bool) : Img :=
  let a := bit buf * 16777216
  let n := imgLen (s.chartBuf.read a 64)
  s.chartBuf.read a (if 64 ≤ n && n ≤ 16777216 then n else 64)

end Sys2Proof.Machine
end

