-- ==== Sys2Proof/Machine/Chain.lean ====
section
/-! DEFINITION. Tensor descriptors, chain records and stages of the vector engine as the checks of R102 read them
(R77 to R96). -/

namespace Sys2Proof.Machine

/-! ### Tensor descriptors (R77 to R80) -/

/-- A tensor descriptor (R77). `raw` is its 256-bit value. -/
structure Desc where
  addr : Nat
  raw : Nat
  base : Nat
  typ : Nat
  rank : Nat
  acc : Bool
  crane : Nat
  size : List Nat
  stride : List Int
  row0 : Nat
  col0 : Nat
  sptr : Nat
  sen : Bool
deriving DecidableEq, Repr

/-- The descriptor whose 32 bytes lie at an apron address. -/
def descOf (addr : Nat) (bs : List Byte) : Desc :=
  let v := leNat bs
  { addr := addr, raw := v, base := fld v 0 19, typ := fld v 20 4, rank := fld v 24 3, acc := bitAt v 27,
    crane := fld v 28 2, size := (List.range 5).map (fun k => fld v (32 + 16 * k) 16),
    stride := (List.range 5).map (fun k => sext (fld v (112 + 20 * k) 20) 20),
    row0 := fld v 212 6, col0 := fld v 218 6, sptr := fld v 224 13, sen := bitAt v 237 }

/-- SIZE_d, 1 at or above RANK (R79). -/
def Desc.n (d : Desc) (k : Nat) : Nat := if k < d.rank then d.size.getD k 1 else 1
/-- STRIDE_d. -/
def Desc.st (d : Desc) (k : Nat) : Int := d.stride.getD k 0
/-- Element bytes of a TYPE (R78). -/
def typBytes (t : Nat) : Nat := if t = 0 || t = 5 then 4 else if t = 1 || t = 2 || t = 6 || t = 7 then 2 else 1
/-- Element bytes. -/
def Desc.eb (d : Desc) : Nat := typBytes d.typ
/-- A float TYPE: kind F in lanes (R78). -/
def Desc.isF (d : Desc) : Bool := decide (d.typ < 5)
/-- Items: rows of the tensor (R99). -/
def Desc.items (d : Desc) : Nat := d.n 1 * d.n 2 * d.n 3 * d.n 4
/-- Coordinates i1 to i4 of item q, i1 fastest (R99). -/
def Desc.coords (d : Desc) (q : Nat) : List Nat :=
  [q % d.n 1, q / d.n 1 % d.n 2, q / (d.n 1 * d.n 2) % d.n 3, q / (d.n 1 * d.n 2 * d.n 3)]
/-- Apron address of element i0 at the coordinates i1 to i4 (R79). -/
def Desc.at (d : Desc) (i0 : Nat) (c : List Nat) : Nat :=
  ((d.base : Int) + i0 * d.st 0 +
    ((List.range 4).map (fun k => (c.getD k 0 : Int) * d.st (k + 1))).foldl (· + ·) 0).toNat
/-- First byte and byte count of the element range (R102). -/
def Desc.range (d : Desc) : Int × Int :=
  let span := fun k => ((d.n k : Int) - 1) * d.st k
  let lo := (List.range 5).foldl (fun a k => a + min 0 (span k)) (d.base : Int)
  let hi := (List.range 5).foldl (fun a k => a + max 0 (span k)) (d.base : Int)
  (lo, hi + d.eb - lo)
/-- The element range lies in the apron. -/
def Desc.inApron (d : Desc) : Bool := decide (0 ≤ d.range.1) && decide (d.range.1 + d.range.2 ≤ 0x60000)

/-- A descriptor breaks R77, R79, R81 or, as an output, R88 (R102). `zeroOk` lets an output have zero strides (R100). -/
def Desc.bad (d : Desc) (out zeroOk : Bool) : Bool :=
  bitAt d.raw 19 || fld d.raw 30 2 != 0 || fld d.raw 238 18 != 0 || decide (10 ≤ d.typ) ||
  decide (d.rank = 0) || decide (5 < d.rank) ||
  (List.range 5).any (fun k => if k < d.rank then d.size.getD k 0 = 0 else d.size.getD k 0 != 0 || d.st k != 0) ||
  (if d.acc then
     out || d.typ != 0 || decide (2 < d.rank) || d.base != 0 || d.stride.any (· != 0) ||
     decide (64 < d.col0 + d.n 0) || decide (64 < d.row0 + d.n 1)
   else
     d.crane != 0 || fld d.raw 212 26 != 0 || d.base % d.eb != 0 || d.stride.any (fun x => x % (d.eb : Int) != 0)) ||
  (out && !zeroOk && (List.range 5).any (fun k => d.st k = 0 && decide (1 < d.n k)))

/-! ### Operations (R90) -/

/-- What an operation asks of a source. -/
inductive Need where
  | f
  | i
  | any
deriving DecidableEq, Repr

/-- An entry of the operation table: sources, whether the result is F, latency, qclk per vector, packed. -/
structure OpSpec where
  need : List Need
  isF : Bool
  lat : Nat
  per : Nat
  packed : Bool
deriving DecidableEq, Repr

/-- A table entry. -/
def opRow (need : List Need) (isF : Bool) (lat per : Nat) (packed : Bool) : Option OpSpec :=
  some { need := need, isF := isF, lat := lat, per := per, packed := packed }

/-- The operation table (R90); codes not listed are undefined. -/
def opSpec (c : Nat) : Option OpSpec :=
  match c with
  | 0x01 | 0x02 | 0x03 => opRow [.f, .f] true 3 1 true
  | 0x04 => opRow [.f, .f, .f] true 4 1 true
  | 0x05 | 0x06 => opRow [.f, .f] true 1 1 true
  | 0x07 | 0x08 => opRow [.f] true 1 1 true
  | 0x09 => opRow [.f] true 2 1 true
  | 0x0A => opRow [.f, .i] true 2 1 false
  | 0x0B => opRow [.f] true 1 1 true
  | 0x10 => opRow [.f] true 10 2 false
  | 0x11 => opRow [.f, .f] true 14 4 false
  | 0x12 => opRow [.f] true 14 4 false
  | 0x13 => opRow [.f] true 10 2 false
  | 0x14 | 0x15 => opRow [.f] true 12 2 false
  | 0x16 => opRow [.f] true 10 1 false
  | 0x18 => opRow [.f, .f] false 1 1 true
  | 0x19 => opRow [.i, .i] false 1 1 false
  | 0x1A => opRow [.any, .any, .any] true 1 1 true
  | 0x20 | 0x21 => opRow [.i, .i] false 1 1 false
  | 0x22 => opRow [.i, .i] false 3 1 false
  | 0x23 | 0x24 | 0x25 | 0x26 | 0x27 | 0x28 | 0x29 | 0x2A => opRow [.i, .i] false 1 1 false
  | 0x30 => opRow [.i] true 2 1 false
  | 0x31 => opRow [.f] false 2 1 false
  | 0x38 => opRow [.i] false 6 1 false
  | 0x39 => opRow [.i, .i] false 2 1 false
  | 0x3A => opRow [.any] true 1 1 true
  | 0x40 => opRow [.f] true 3 1 false
  | 0x41 | 0x42 => opRow [.f] true 1 1 false
  | 0x43 | 0x44 => opRow [.f] false 1 1 false
  | 0x45 => opRow [.i] false 1 1 false
  | 0x46 => opRow [.f] true 2 1 false
  | _ => none

/-- A reduction (R92, R93). -/
def isReduction (op : Nat) : Bool := decide (0x40 ≤ op)

/-- A stage of a chain (R84); `isF` is the kind of its result. -/
structure Stage where
  op : Nat
  src : List Nat
  cidx : Nat
  pidx : Nat
  mod : Nat
  aux : Nat
  isF : Bool
deriving DecidableEq, Repr

/-- MOD and AUX of a stage hold a value that its operation does not use or refuses (R90, R91, R93, R94, R96). -/
def badModAux (op mod aux : Nat) : Bool :=
  let modMax := if op = 0x18 || op = 0x19 then 8 else if op = 0x31 || op = 0x16 then 4 else if op = 0x38 then 2
    else if op = 0x46 then 128 else 1
  let auxBad :=
    if op = 0x16 then fld aux 17 7 != 0 || decide (fld aux 13 4 < 6) || decide (10 < fld aux 13 4)
    else if op = 0x39 then fld aux 19 5 != 0
    else aux != 0
  decide (modMax ≤ mod) || auxBad || (op = 0x19 && decide (6 ≤ mod)) ||
  (op = 0x46 && (decide (mod = 0) || decide (64 < mod)))

/-- The kind of a source select (R85): fixed, or that of PARAM or CONST, which is read as required. -/
inductive SrcKind where
  | fixed (isF : Bool)
  | param
  | const
  | absent
  | refused
deriving DecidableEq, Repr

/-- The kind of select `sel` in a stage with the results of the stages below it. -/
def srcKind (below : List Stage) (ins : List (Option Desc)) (cidx sel : Nat) : SrcKind :=
  if sel < 8 then
    match below.drop sel with
    | t :: _ => .fixed t.isF
    | [] => .refused
  else if sel < 11 then
    match ins.getD (sel - 8) none with
    | some d => .fixed d.isF
    | none => .refused
  else if sel = 11 then (if cidx < 5 then .fixed false else .refused)
  else if sel = 12 then .param
  else if sel = 13 then .const
  else if sel = 15 then .absent
  else .refused

/-- A source can serve a need. -/
def serves (k : SrcKind) (n : Need) : Bool :=
  match k, n with
  | .fixed b, .f => b
  | .fixed b, .i => !b
  | .fixed _, .any => true
  | .param, _ => true
  | .const, _ => true
  | _, _ => false

/-- The kind a source takes where either is accepted: PARAM is I, CONST is F (R85). -/
def looseKind (k : SrcKind) : Bool :=
  match k with
  | .fixed b => b
  | .const => true
  | _ => false

/-- The result kind of a stage, or none where its sources break R85 or R86. Of two sources that take either kind the first one's
kind is both's: the model's choice for a SEL of PARAM and CONST (entry 106). -/
def stageKind (op mod : Nat) (spec : OpSpec) (ks : List SrcKind) (pack : Bool) : Option Bool :=
  let used := ks.take spec.need.length
  if !((used.zip spec.need).all (fun p => serves p.1 p.2)) then none
  else if !((ks.drop spec.need.length).all (· == .absent)) then none
  else if op = 0x1A then
    match used with
    | .fixed a :: .fixed b :: _ => if a = b then some a else none
    | .fixed a :: _ => some a
    | _ :: .fixed b :: _ => some b
    | k :: _ => some (looseKind k)
    | [] => none
  else if op = 0x3A then some (looseKind (used.headD .absent))
  else if op = 0x38 then some (mod = 1)
  else if op = 0x18 then some pack
  else some spec.isF

/-- The stages of a record from number i on, or none where one breaks R76, R84 to R86 or R90. -/
def stagesOf (rec : List Byte) (ins : List (Option Desc)) (pack : Bool) (n : Nat) : Nat → List Stage → Option (List Stage)
  | 0, acc => some acc
  | k + 1, acc =>
    let i := n - (k + 1)
    let w := leAt rec (32 + 8 * i) 8
    let op := fld w 0 8
    let mod := fld w 32 8
    let aux := fld w 40 24
    match opSpec op with
    | none => none
    | some spec =>
      let src := [fld w 8 4, fld w 12 4, fld w 16 4]
      let ks := src.map (srcKind acc ins (fld w 20 3))
      if bitAt w 23 || fld w 30 2 != 0 || badModAux op mod aux || (isReduction op && k != 0) ||
          (pack && (!spec.packed || isReduction op)) ||
          ((op = 0x16 || op = 0x39) && acc.any (fun t => t.op = op)) then none
      else match stageKind op mod spec ks pack with
        | none => none
        | some f =>
          stagesOf rec ins pack n k
            (acc ++ [{ op := op, src := src, cidx := fld w 20 3, pidx := fld w 24 6, mod := mod, aux := aux, isF := f }])

/-! ### Checks of a VE instruction (R102) -/

/-- Apron bytes as the checks see them: address and length. -/
abbrev Reader := Nat → Nat → List Byte

/-- A code of R102 with the item found bad (R184). -/
abbrev Checked (α : Type) := Except Raised α

/-- Refused with a code at an item's address, cut to 19 bits (R184). -/
def veBad {α : Type} (code a : Nat) : Checked α := .error (code, a % 2 ^ 19)

/-- The 32-byte units of the apron. -/
def descLimit : Nat := 12288

/-- A descriptor by its field, `none` where the field holds the none value v; an address outside the apron is refused
(R83, R150). -/
def descAt (rd : Reader) (noneV field : Nat) (required : Bool) : Checked (Option Desc) :=
  if field = noneV then (if required then veBad 0x30 (field * 32) else .ok none)
  else if descLimit ≤ field then veBad 0x30 (field * 32)
  else .ok (some (descOf (32 * field) (rd (32 * field) 32)))

/-- The first descriptor of a list that a test refuses. -/
def firstBad (code : Nat) (ds : List (Option Desc)) (p : Desc → Bool) : Checked Unit :=
  match ds.find? (fun o => o.any p) with
  | some (some d) => veBad code d.addr
  | _ => .ok ()

/-- The scale block of an accumulator source that uses one lies in the apron. -/
def Desc.blockAt (d : Desc) : Option Nat := if d.acc && d.sen then some (d.sptr * 64) else none

/-- Scales of an accumulator source: T, r and c are 1 without a scale block (R77, R81). -/
def Desc.scales (d : Desc) (rd : Reader) : Scales :=
  match d.blockAt with
  | some a => scalesOf (rd a 12)
  | none => noScales

/-- Reserved bytes 12 to 63 of the scale block of an accumulator source are zero (R81, R102). -/
def blockCheck (rd : Reader) (ds : List (Option Desc)) : Checked Unit :=
  match (ds.filterMap (fun o => o.bind Desc.blockAt)).find? (fun a =>
      decide (a + 64 ≤ 0x60000) && ((rd a 64).drop 12).any (· != 0)) with
  | some a => veBad 0x30 a
  | none => .ok ()

/-- Ranges of descriptors, scale blocks and scale arrays inside the apron (R102, VE_BOUNDS). -/
def rangeCheck (rd : Reader) (ds : List (Option Desc)) : Checked Unit :=
  match firstBad 0x31 ds (fun d => !d.acc && !d.inApron) with
  | .error e => .error e
  | .ok () =>
    match ds.findSome? (fun o => o.bind (fun d => d.blockAt.bind (fun a =>
        if 0x60000 < a + 64 then some a
        else
          let sc := d.scales rd
          let past := fun (x : Option Nat) (first cnt : Nat) =>
            x.bind (fun y => if 0x60000 < y + 4 * (first + cnt) then some y else none)
          (past sc.rAt d.row0 (d.n 1)).or (past sc.cAt d.col0 (d.n 0))))) with
    | some a => veBad 0x31 a
    | none => .ok ()

/-- A checked chain. -/
structure Chain where
  crec : Nat
  ins : List (Option Desc)
  out0 : Desc
  out1 : Option Desc
  stages : List Stage
  pack : Bool
  rmode : Nat
  sat : Bool
  o1s : Nat
  consts : List W32
deriving DecidableEq, Repr

/-- The last stage of a chain. -/
def Chain.last (c : Chain) : Stage :=
  c.stages.getLastD { op := 0x3A, src := [], cidx := 0, pidx := 0, mod := 0, aux := 0, isF := true }
/-- The chain ends in a reduction. -/
def Chain.red (c : Chain) : Bool := isReduction c.last.op
/-- The chain ends in RTOPK. -/
def Chain.topk (c : Chain) : Bool := c.last.op = 0x46
/-- The accumulator source of a list of inputs (R81). -/
def accInput (ins : List (Option Desc)) : Option Desc := ins.findSome? (fun o => o.bind (fun d => if d.acc then some d else none))
/-- The tensor that sets the shape (R89). -/
def Chain.shape (c : Chain) : Desc := (c.ins.headD none).getD c.out0
/-- Vector width (R79). -/
def Chain.width (c : Chain) : Nat := if (accInput c.ins).isSome then 64 else if c.pack then 256 else 128
/-- The LUT stage. -/
def Chain.lut (c : Chain) : Option Stage := c.stages.find? (fun t => t.op = 0x16)
/-- The ANC stage. -/
def Chain.anc (c : Chain) : Option Stage := c.stages.find? (fun t => t.op = 0x39)
/-- Apron address and bytes of a LUT (R94). -/
def lutRange (t : Stage) : Nat × Nat := (fld t.aux 0 13 * 64, 16 * (2 ^ fld t.aux 13 4 + 1))
/-- Apron address and bytes of a parent list (R96). -/
def ancRange (t : Stage) : Nat × Nat := (fld t.aux 0 13 * 64, fld t.aux 13 6 + 1)

/-- A TYPE class matches the kind of a value (R86). -/
def classOk (d : Desc) (isF : Bool) : Bool := d.isF = isF

/-- The outputs of a chain match the kinds of what they receive, and OUT1_STAGE names a stage (R86, R93). -/
def outputCheck (c : Chain) : Checked Unit :=
  if !classOk c.out0 c.last.isF then veBad 0x30 c.out0.addr
  else if c.topk then
    match c.out1 with
    | none => veBad 0x30 (0xFFFF * 32)
    | some d => if d.typ = 5 then .ok () else veBad 0x30 d.addr
  else match c.out1 with
    | none => .ok ()
    | some d =>
      match c.stages.drop c.o1s with
      | [] => veBad 0x30 c.crec
      | t :: _ => if isReduction t.op then veBad 0x30 c.crec else if classOk d t.isF then .ok () else veBad 0x30 d.addr

/-- Packed mode's requirements beyond those of its stages (R76). -/
def packCheck (c : Chain) : Checked Unit :=
  if c.pack && ((accInput c.ins).isSome || (c.ins ++ [some c.out0, c.out1]).any (fun o => o.any (fun d => d.typ != 1))) then
    veBad 0x30 c.crec
  else .ok ()

/-- LUT and parent tables lie in the apron. -/
def tableCheck (c : Chain) : Checked Unit :=
  match ((c.lut.map lutRange).toList ++ (c.anc.map ancRange).toList).find? (fun r => decide (0x60000 < r.1 + r.2)) with
  | some r => veBad 0x31 r.1
  | none => .ok ()

/-- Sizes agree with the shape (R89). -/
def sizesOk (shape d : Desc) (first : Nat) : Bool :=
  d.n 0 = first && (List.range 4).all (fun k => d.n (k + 1) = shape.n (k + 1))

/-- The shape rules of a chain (R89, R93). -/
def shapeCheck (c : Chain) : Checked Unit :=
  let sh := c.shape
  let k := if c.topk then c.last.mod else 1
  match firstBad 0x32 c.ins (fun d => !sizesOk sh d (sh.n 0)) with
  | .error e => .error e
  | .ok () =>
    if !sizesOk sh c.out0 (if c.red then k else sh.n 0) then veBad 0x32 c.out0.addr
    else firstBad 0x32 [c.out1] (fun d => !sizesOk sh d (if c.topk then k else sh.n 0))

/-- One check after another. -/
def andThen (a b : Checked Unit) : Checked Unit :=
  match a with
  | .error e => .error e
  | .ok () => b

/-- The checks of R102 on a VCH whose record lies at `crec`, in that rule's order. Of several items that break one code the first
in this order is named, inputs before outputs and descriptors before blocks, arrays and tables: the model's choice (entry
103). -/
def chainOf (rd : Reader) (crec : Nat) : Checked Chain :=
  if 0x60000 < crec + 128 then veBad 0x31 crec
  else
    let rec' := rd crec 128
    let n := fld (leAt rec' 10 1) 0 4
    let pack := bitAt (leAt rec' 10 1) 7
    if n = 0 || 8 < n || fld (leAt rec' 11 1) 0 2 = 3 || fld (leAt rec' 11 1) 3 5 != 0 || leAt rec' 12 20 != 0 then
      veBad 0x30 crec
    else
      match descAt rd 0xFFFF (leAt rec' 0 2) false, descAt rd 0xFFFF (leAt rec' 2 2) false,
        descAt rd 0xFFFF (leAt rec' 4 2) false, descAt rd 0xFFFF (leAt rec' 6 2) true,
        descAt rd 0xFFFF (leAt rec' 8 2) false with
      | .ok i0, .ok i1, .ok i2, .ok (some o0), .ok o1 =>
        let ins := [i0, i1, i2]
        match andThen (firstBad 0x30 ins (·.bad false false)) (firstBad 0x30 [some o0, o1] (·.bad true false)) with
        | .error e => .error e
        | .ok () =>
          if 1 < (ins.filter (fun o => o.any (·.acc))).length then veBad 0x30 crec
          else match stagesOf rec' ins pack n n [] with
            | none => veBad 0x30 crec
            | some st =>
              let c : Chain :=
                { crec := crec, ins := ins, out0 := o0, out1 := o1, stages := st, pack := pack,
                  rmode := fld (leAt rec' 11 1) 0 2, sat := bitAt (leAt rec' 11 1) 2, o1s := fld (leAt rec' 10 1) 4 3,
                  consts := (List.range 8).map (fun i => w32 (leAt rec' (96 + 4 * i) 4)) }
              match andThen (outputCheck c) (andThen (packCheck c) (andThen (blockCheck rd ins)
                (andThen (rangeCheck rd (ins ++ [some o0, o1])) (andThen (tableCheck c) (shapeCheck c))))) with
              | .error e => .error e
              | .ok () => .ok c
      | .error e, _, _, _, _ => .error e
      | _, .error e, _, _, _ => .error e
      | _, _, .error e, _, _ => .error e
      | _, _, _, .error e, _ => .error e
      | _, _, _, _, .error e => .error e
      | _, _, _, .ok none, _ => veBad 0x30 (0xFFFF * 32)

/-- A checked VCMP (R99). -/
structure Compress where
  d : Desc
  p : Desc
  o : Desc
  x : Desc
  f : Option Desc
  key : Bool
  buckets : Nat
  cnt : Nat
deriving DecidableEq, Repr

/-- The checks of R102 on a VCMP. -/
def compressOf (rd : Reader) (w : W128) : Checked Compress :=
  let key := wf w 98 1 = 1
  match descAt rd 0x3FFF (wf w 24 14) true, descAt rd 0x3FFF (wf w 38 14) true, descAt rd 0x3FFF (wf w 52 14) true,
    descAt rd 0x3FFF (wf w 66 14) true, descAt rd 0x3FFF (wf w 80 14) key with
  | .ok (some d), .ok (some p), .ok (some o), .ok (some x), .ok f =>
    let b := if key then wf w 99 10 + 1 else 0
    let c : Compress := { d := d, p := p, o := o, x := x, f := f, key := key, buckets := b, cnt := wf w 94 4 }
    let one := fun (e : Desc) (t : Bool) => if t then veBad 0x30 e.addr else (.ok () : Checked Unit)
    let shape := fun (e : Desc) (t : Bool) => if t then veBad 0x32 e.addr else (.ok () : Checked Unit)
    match andThen (firstBad 0x30 [some d, some p] (fun e => e.bad false false || e.acc))
      (andThen (firstBad 0x30 [some o, some x, f] (·.bad true false))
      (andThen (one p p.isF) (andThen (one o (o.rank != 2 || o.typ != d.typ))
      (andThen (one x (x.rank != 1 || (x.typ != 5 && x.typ != 7)))
      (andThen (firstBad 0x30 [f] (fun e => e.rank != 1 || e.typ != 5))
      (andThen (rangeCheck rd [some d, some p, some o, some x, f])
      (andThen (shape p (!sizesOk d p 1)) (andThen (shape o (o.n 0 != d.n 0))
      (andThen (shape x (x.n 0 != o.n 1)) (firstBad 0x32 [f] (fun e => e.n 0 != b + 1))))))))))) with
    | .error e => .error e
    | .ok () => .ok c
  | .error e, _, _, _, _ => .error e
  | _, .error e, _, _, _ => .error e
  | _, _, .error e, _, _ => .error e
  | _, _, _, .error e, _ => .error e
  | _, _, _, _, .error e => .error e
  | _, _, _, _, _ => veBad 0x30 (0x3FFF * 32)

/-- A checked VEXP (R100). -/
structure Expand where
  i : Desc
  x : Desc
  w : Option Desc
  d : Desc
  mode : Nat
  cnt : Option Nat
  zero : Bool
deriving DecidableEq, Repr

/-- The checks of R102 on a VEXP. -/
def expandOf (rd : Reader) (w : W128) : Checked Expand :=
  let mode := wf w 85 2
  match descAt rd 0x3FFF (wf w 24 14) true, descAt rd 0x3FFF (wf w 38 14) true,
    descAt rd 0x3FFF (wf w 52 14) (decide (mode = 2)), descAt rd 0x3FFF (wf w 66 14) true with
  | .ok (some i), .ok (some x), .ok wt, .ok (some d) =>
    let c : Expand :=
      { i := i, x := x, w := wt, d := d, mode := mode, cnt := if wf w 84 1 = 1 then some (wf w 80 4) else none,
        zero := wf w 87 1 = 1 }
    let ins := [some i, some x, wt]
    let one := fun (e : Desc) (t : Bool) => if t then veBad 0x30 e.addr else (.ok () : Checked Unit)
    let shape := fun (e : Desc) (t : Bool) => if t then veBad 0x32 e.addr else (.ok () : Checked Unit)
    match andThen (firstBad 0x30 ins (·.bad false false)) (andThen (firstBad 0x30 [some d] (·.bad true (mode != 0)))
      (andThen (if 1 < (ins.filter (fun o => o.any (·.acc))).length then veBad 0x30 x.addr else .ok ())
      (andThen (one x (x.isF || x.rank != 1)) (andThen (firstBad 0x30 [wt] (fun e => e.typ != 0))
      (andThen (if mode = 0 then one d (d.typ != i.typ) else andThen (one i (!i.isF)) (one d (!d.isF)))
      (andThen (blockCheck rd ins) (andThen (rangeCheck rd (ins ++ [some d]))
      (andThen (shape x (x.n 0 != i.n 1)) (andThen (firstBad 0x32 [wt] (fun e => e.rank != 1 || e.n 0 != i.n 1))
      (shape d (d.n 0 != i.n 0))))))))))) with
    | .error e => .error e
    | .ok () => .ok c
  | .error e, _, _, _ => .error e
  | _, .error e, _, _ => .error e
  | _, _, .error e, _ => .error e
  | _, _, _, .error e => .error e
  | _, _, _, _ => veBad 0x30 (0x3FFF * 32)

end Sys2Proof.Machine
end

