-- ==== Sys2Proof/Machine/Vector.lean ====
section
/-! DEFINITION. The vector engine at work: issue with its latch reads, chains, compress and expand, start and completion
(R74 to R103, R466). The values of an instruction are computed in one step, at its start (entry 13). -/

namespace Sys2Proof.Machine

/-! ### Elements -/

/-- A float format by TYPE code (R78). -/
def typFmt (t : Nat) : Fmt :=
  if t = 0 then fFP32 else if t = 1 then fBF16 else if t = 2 then fFP16 else if t = 3 then fE4M3 else fE5M2

/-- An element's bytes as a lane value (R78). -/
def laneOf (t : Nat) (bs : List Byte) : W32 :=
  let v := leNat bs
  if t < 5 then fOfVal ((typFmt t).decode v)
  else if t = 7 || t = 9 then w32 v
  else BitVec.ofInt 32 (sext v (8 * typBytes t))

/-- Range of an integer TYPE. -/
def intRange (t : Nat) : Int × Int :=
  if t = 5 then (-(2 ^ 31), 2 ^ 31 - 1) else if t = 6 then (-32768, 32767) else if t = 7 then (0, 65535)
  else if t = 8 then (-128, 127) else (0, 255)

/-- A lane value as an element's bytes, with CVO (R87). -/
def elemOf (t rmode : Nat) (sat : Bool) (v : W32) : List Byte × Bool :=
  if t < 5 then
    let r := convertTo t rmode sat (fval v)
    (leBytes (typBytes t) r.1, r.2)
  else
    let r := intRange t
    let i := max r.1 (min r.2 v.toInt)
    (leBytes (typBytes t) (wrap i 32), decide (i ≠ v.toInt))

/-- What a run of a VE instruction carries along: the state, the events so far, those of the accumulator source's crane,
and the uncorrectable codeword that ended it. -/
structure VeRun where
  s : State
  ev : VeEvents
  cvo : Bool
  nf : Bool
  bad : Option Nat
deriving Repr

/-- The quay's apron bytes as they stand. -/
def VeRun.bytes (r : VeRun) (q a n : Nat) : List Byte := r.s.apron q a n

/-- Reads of apron ranges meet their marked codewords in the order of the ranges, each codeword once (R122, R123, R466). -/
def VeRun.touch (q : Nat) (ranges : List (Nat × Nat)) (r : VeRun) : VeRun :=
  let marks := (ranges.flatMap (fun p => marksIn r.s.stack.ecc (stackAddr q 0 p.1) p.2)).eraseDups
  let t := eccWalk marks r.s
  { r with s := t.1, bad := t.2 }

/-- A range put in its place by address. -/
def putRange (p : Nat × Nat) : List (Nat × Nat) → List (Nat × Nat)
  | [] => [p]
  | x :: xs => if p.1 ≤ x.1 then p :: x :: xs else x :: putRange p xs

/-- Ranges in ascending address order (R466). -/
def ascending (ps : List (Nat × Nat)) : List (Nat × Nat) := ps.foldr putRange []

/-- Ascending ranges that touch or overlap joined into runs. -/
def joinRuns : List (Nat × Nat) → List (Nat × Nat)
  | [] => []
  | p :: ps => match joinRuns ps with
    | [] => [p]
    | x :: xs => if x.1 ≤ p.1 + p.2 then (p.1, max (p.1 + p.2) (x.1 + x.2) - p.1) :: xs else p :: x :: xs

/-- Elements that leave together are written: the codewords of each run of adjacent bytes are merged or replaced at once
(R109), then the bytes are stored in order. -/
def VeRun.writes (q : Nat) (ws : List (Nat × List Byte)) (r : VeRun) : VeRun :=
  let s := (joinRuns (ascending (ws.map (fun w => (w.1, w.2.length))))).foldl
    (fun s p => s.eccWrite (stackAddr q 0 p.1) p.2) r.s
  { r with s := s.setMem (ws.foldl (fun m w => m.write (stackAddr q 0 w.1) w.2) s.stack.mem) }

/-- Events join a run. -/
def VeRun.event (e : VeEvents) (r : VeRun) : VeRun := { r with ev := r.ev.or e }

/-- A run goes on unless an uncorrectable codeword ended it. -/
def VeRun.go (f : VeRun → VeRun) (r : VeRun) : VeRun := if r.bad.isSome then r else f r

/-- An element of an accumulator source with its events: row and column from the descriptor, FP32, RNE (R81). -/
def accLane (s : State) (q : Nat) (d : Desc) (sc : Scales) (i0 i1 : Nat) : W32 × Bool × Bool :=
  let x := s.quay q
  let m := d.row0 + i1
  let n := d.col0 + i0
  let at' := fun (a : Option Nat) (i : Nat) => match a with
    | none => vOne
    | some a => fval (s.apronW32 q (a + 4 * i))
  let rv := at' sc.rAt m
  let cv := at' sc.cAt n
  let c := convertTo 0 0 false ((x.elem d.crane m n).value (x.anchor d.crane m) (fval sc.t) rv cv)
  (w32 c.1, c.2, nonFinite (fval sc.t) || nonFinite rv || nonFinite cv)

/-- Element (i0, item coordinates) of a tensor as a lane value, with the crane events. -/
def laneAt (s : State) (q : Nat) (d : Desc) (sc : Scales) (i0 : Nat) (c : List Nat) : W32 × Bool × Bool :=
  if d.acc then accLane s q d sc i0 (c.headD 0)
  else (laneOf d.typ (s.apron q (d.at i0 c) d.eb), false, false)

/-- Apron ranges read for element i0 of a tensor. -/
def lanesRead (d : Desc) (sc : Scales) (i0 : Nat) (c : List Nat) : List (Nat × Nat) :=
  if d.acc then
    (sc.rAt.map (fun a => (a + 4 * (d.row0 + c.headD 0), 4))).toList ++ (sc.cAt.map (fun a => (a + 4 * (d.col0 + i0), 4))).toList
  else [(d.at i0 c, d.eb)]

/-! ### Stage operations (R90 to R96) -/

/-- No events. -/
def noEv : VeEvents := VeEvents.none
/-- NAN where a NaN came from operands that are none (R91). -/
def nanEv (r : W32) (args : List W32) : VeEvents :=
  { noEv with nan := decide (fval r = .nan) && args.all (fun a => decide (fval a ≠ .nan)) }
/-- A zero operand. -/
def isZeroF (a : W32) : Bool := a &&& 0x7FFFFFFF = 0

/-- RAND (R95). -/
def randHash (a : W32) (q : Nat) : W32 :=
  (List.range 3).foldl (fun h _ =>
    let h := h ^^^ (h >>> 15)
    let h := h * 0xB5297A4D
    h ^^^ (h >>> 13)) (a ^^^ (w32 q * 0x6C8E9CF5))

/-- The ancestors of a node, itself first, by its parents (R96). -/
def ancestors (par : List Byte) : Nat → Nat → List Nat
  | 0, a => [a]
  | k + 1, a =>
    let p := sext ((par.getD a 0).toNat) 8
    if 0 ≤ p && p < (a : Int) then a :: ancestors par k p.toNat else [a]

/-- ANC (R96). -/
def ancTest (par : List Byte) (a b : W32) : Bool :=
  let n : Int := par.length
  if 0 ≤ a.toInt && a.toInt < n && 0 ≤ b.toInt && b.toInt < n then (ancestors par par.length a.toNat).contains b.toNat
  else false

/-- Floor of u clamped to 0 to n − 1, and whether u lies in 0 ≤ u < n (R94). -/
def lutIndex (u : W32) (n : Nat) : Nat × Bool :=
  match fval u with
  | .nan => (0, false)
  | .inf neg => (if neg then 0 else n - 1, false)
  | .fin neg m e =>
    if m = 0 then (0, true)
    else if neg then (0, false)
    else
      let i := if 20 < e then n else if 0 ≤ e then m * 2 ^ e.toNat else m / 2 ^ e.natAbs
      if i < n then (i, true) else (n - 1, false)

/-- LUT (R94): the value and whether u fell outside the table. -/
def lutEval (tab : List Byte) (n : Nat) (clamp : Bool) (x : W32) : W32 × Bool :=
  if fval x = .nan then (fNan, false)
  else
    let u := fMul (fSub x (w32 (leAt tab 0 4))) (w32 (leAt tab 4 4))
    let j := lutIndex u n
    let t := fSub u (fOfInt (w32 j.1))
    let t := if clamp && decide (fval t ≠ .nan) then fMax 0 (fMin fOne t) else t
    let c := fun i => w32 (leAt tab (16 + 16 * j.1 + 4 * i) 4)
    (fFma (fFma (fFma (c 3) t (c 2)) t (c 1)) t (c 0), !j.2)

/-- ICMP predicates (R91). -/
def iPred (p : Nat) (a b : W32) : Bool :=
  if p = 0 then a = b else if p = 1 then a ≠ b else if p = 2 then a.toInt < b.toInt else if p = 3 then a.toInt ≤ b.toInt
  else if p = 4 then b.toInt < a.toInt else b.toInt ≤ a.toInt

/-- What a stage reads besides its sources: the LUT copy, the parent list, and the element index of RAND. -/
structure StageEnv where
  lut : List Byte
  par : List Byte
  idx : Nat
deriving Repr

/-- The result of an element-wise operation and its events (R90, R91). A reduction stage keeps its operand. -/
def opEval (t : Stage) (pack : Bool) (env : StageEnv) (a b c : W32) : W32 × VeEvents :=
  let f1 := fun r => (r, nanEv r [a])
  let f2 := fun r => (r, nanEv r [a, b])
  let i := fun (r : W32) => (r, noEv)
  match t.op with
  | 0x01 => f2 (fAdd a b)
  | 0x02 => f2 (fSub a b)
  | 0x03 => f2 (fMul a b)
  | 0x04 => (fFma a b c, nanEv (fFma a b c) [a, b, c])
  | 0x05 => f2 (fMax a b)
  | 0x06 => f2 (fMin a b)
  | 0x07 => f1 (fClean (a &&& 0x7FFFFFFF))
  | 0x08 => f1 (fClean (fNeg a))
  | 0x09 => f1 (fFloor a)
  | 0x0A => f1 (fScaleb a b)
  | 0x0B => f1 (fCvtbf a)
  | 0x10 => (fRcp a, { nanEv (fRcp a) [a] with divz := isZeroF a })
  | 0x11 => (fDiv a b, { nanEv (fDiv a b) [a, b] with divz := isZeroF b })
  | 0x12 => f1 (fSqrt a)
  | 0x13 => (fRsqrt a, { nanEv (fRsqrt a) [a] with divz := isZeroF a })
  | 0x14 => f1 (fExp a)
  | 0x15 => (fLog a, { nanEv (fLog a) [a] with divz := isZeroF a })
  | 0x16 =>
    let r := lutEval env.lut (2 ^ fld t.aux 13 4) (bitAt t.mod 0) a
    (r.1, { nanEv r.1 [a] with lutRange := r.2 })
  | 0x18 => i (if fPred (fld t.mod 0 3) a b then (if pack then fOne else 1) else 0)
  | 0x19 => i (if iPred (fld t.mod 0 3) a b then 1 else 0)
  | 0x1A => i (if (if pack then c >>> 16 else c) ≠ 0 then a else b)
  | 0x20 => i (a + b)
  | 0x21 => i (a - b)
  | 0x22 => i (a * b)
  | 0x23 => i (if a.toInt < b.toInt then b else a)
  | 0x24 => i (if a.toInt < b.toInt then a else b)
  | 0x25 => i (a &&& b)
  | 0x26 => i (a ||| b)
  | 0x27 => i (a ^^^ b)
  | 0x28 => i (a <<< (b.toNat % 32))
  | 0x29 => i (a >>> (b.toNat % 32))
  | 0x2A => i (a.sshiftRight (b.toNat % 32))
  | 0x30 => i (fOfInt a)
  | 0x31 => ((fToInt (fld t.mod 0 2) a).1, { noEv with cvo := (fToInt (fld t.mod 0 2) a).2 })
  | 0x38 =>
    let h := randHash a env.idx
    i (if bitAt t.mod 0 then fRound false (h.toNat / 256) (-24) else h)
  | 0x39 => i (if ancTest env.par a b then 1 else 0)
  | _ => i a

/-- A source of a stage (R85). The 32 bits of a CONST, PARAM or COORD enter each element of a packed stage whole: the model's
choice (entry 106). -/
def srcVal (t : Stage) (k : Nat) (res : List W32) (ins : List W32) (coord : List Nat) (consts : List W32)
    (params : Tab W32) : W32 :=
  let sel := t.src.getD k 15
  if sel < 8 then res.getD sel 0
  else if sel < 11 then ins.getD (sel - 8) 0
  else if sel = 11 then w32 (coord.getD t.cidx 0)
  else if sel = 12 then tabGet params t.pidx 0
  else if sel = 13 then consts.getD t.cidx 0
  else 0

/-- The results of a chain's stages for one element, with their events (R76, R86). -/
def stagesEval (c : Chain) (env : StageEnv) (ins : List W32) (coord : List Nat) (params : Tab W32) :
    List Stage → List W32 → VeEvents → List W32 × VeEvents
  | [], res, ev => (res, ev)
  | t :: ts, res, ev =>
    let v := fun k => srcVal t k res ins coord c.consts params
    let r := opEval t c.pack env (v 0) (v 1) (v 2)
    let y := if c.pack && t.isF then fCvtbf r.1 else r.1
    stagesEval c env ins coord params ts (res ++ [y]) (ev.or r.2)

/-! ### Reductions (R92, R93) -/

/-- An addition of RSUM with its NAN event. -/
def sumStep (x : W32 × VeEvents) (y : W32) : W32 × VeEvents :=
  let r := fAdd x.1 y
  (r, x.2.or (nanEv r [x.1, y]))

/-- The sum of one lane's elements in ascending order, starting from the first. -/
def laneSum : List W32 → Option (W32 × VeEvents)
  | [] => none
  | x :: xs => some (xs.foldl sumStep (x, noEv))

/-- Lane l + h joins lane l. -/
def joinLanes (a b : Option (W32 × VeEvents)) : Option (W32 × VeEvents) :=
  match a, b with
  | some x, some y =>
    let r := sumStep x y.1
    some (r.1, r.2.or y.2)
  | some x, none => some x
  | none, y => y

/-- RSUM over W lanes (R92). -/
def rowSum (w : Nat) (vals : List W32) : W32 × VeEvents :=
  let lanes := (List.range w).map (fun l =>
    laneSum (((List.range (ceilDiv vals.length w)).filterMap (fun k => vals[l + k * w]?))))
  let r := [64, 32, 16, 8, 4, 2, 1].foldl (fun (ls : List (Option (W32 × VeEvents))) h =>
    (List.range h).map (fun l => joinLanes (ls.getD l none) (ls.getD (l + h) none))) lanes
  (r.headD none).getD (0, noEv)

/-- Value a ranks above value b (R93): NaN above +∞. -/
def ranksAbove (a b : W32) : Bool :=
  if fval b = .nan then false else if fval a = .nan then true else decide (0 < vCmp (fval a) (fval b))

/-- A pair inserted behind those that do not rank below it. -/
def insertRank (x : W32 × Nat) : List (W32 × Nat) → List (W32 × Nat)
  | [] => [x]
  | y :: ys => if ranksAbove x.1 y.1 then x :: y :: ys else y :: insertRank x ys

/-- The row in descending order, equal values by ascending i0. -/
def ranked (vals : List W32) : List (W32 × Nat) :=
  (vals.zip (List.range vals.length)).foldl (fun l p => insertRank p l) []

/-- The smallest i0 of the extreme, or of a NaN (R92). -/
def argExtreme (mx : Bool) (vals : List W32) : Nat :=
  let ps := vals.zip (List.range vals.length)
  match ps.find? (fun p => decide (fval p.1 = .nan)) with
  | some p => p.2
  | none =>
    (ps.foldl (fun (best : Option (W32 × Nat)) p =>
      match best with
      | none => some p
      | some b =>
        let d := vCmp (fval p.1) (fval b.1)
        if (if mx then decide (0 < d) else decide (d < 0)) then some p else some b) none).elim 0 (·.2)

/-- The results of a reduction: the values for OUT0, the indices for OUT1, events (R92, R93). -/
def reduceRow (t : Stage) (w : Nat) (vals : List W32) : List W32 × List W32 × VeEvents :=
  match t.op with
  | 0x40 => ([(rowSum w vals).1], [], (rowSum w vals).2)
  | 0x41 => ([vals.tail.foldl fMax (vals.headD 0)], [], noEv)
  | 0x42 => ([vals.tail.foldl fMin (vals.headD 0)], [], noEv)
  | 0x43 => ([w32 (argExtreme true vals)], [], noEv)
  | 0x44 => ([w32 (argExtreme false vals)], [], noEv)
  | 0x45 => ([vals.foldl (· + ·) 0], [], noEv)
  | _ =>
    let top := (ranked vals).take t.mod
    let fill := t.mod - top.length
    (top.map (·.1) ++ List.replicate fill 0xFF800000, top.map (fun p => w32 p.2) ++ List.replicate fill 0xFFFFFFFF, noEv)

/-! ### Chains at work -/

/-- Elements of an output, each with its coordinates and value: converted, and written together (R87, R466). -/
def putElems (q : Nat) (c : Chain) (d : Desc) (co : List Nat) (vs : List (Nat × W32)) (r : VeRun) : VeRun :=
  let es := vs.map (fun v => (d.at v.1 co, elemOf d.typ c.rmode c.sat v.2))
  (r.writes q (es.map (fun e => (e.1, e.2.1)))).event { noEv with cvo := es.any (·.2.2) }

/-- The input lanes of element i0, with the crane events. -/
def chainLanes (s : State) (q : Nat) (c : Chain) (sc : Scales) (i0 : Nat) (co : List Nat) : List (W32 × Bool × Bool) :=
  c.ins.map (fun o => match o with
    | some d => laneAt s q d sc i0 co
    | none => (0, false, false))

/-- One vector: every input element is read before any output element is written, OUT0 before OUT1 (R88). Answers the
reduction operands of the vector. -/
def vectorStep (q : Nat) (c : Chain) (sc : Scales) (lut par : List Byte) (params : Tab W32) (co : List Nat)
    (r : VeRun × List W32) (v : Nat) : VeRun × List W32 :=
  if r.1.bad.isSome then r
  else
    let sh := c.shape
    let act := (List.range (min c.width (sh.n 0 - v * c.width))).map (· + v * c.width)
    let run := r.1.touch q ((c.ins.filterMap id).flatMap (fun d => ascending (act.flatMap (fun i0 => lanesRead d sc i0 co))))
    if run.bad.isSome then (run, r.2)
    else
      let vec := act.map (fun i0 =>
        let ls := chainLanes run.s q c sc i0 co
        let item := co.getD 0 0 + sh.n 1 * (co.getD 1 0 + sh.n 2 * (co.getD 2 0 + sh.n 3 * co.getD 3 0))
        let env : StageEnv := { lut := lut, par := par, idx := i0 + sh.n 0 * item }
        (i0, stagesEval c env (ls.map (·.1)) (i0 :: co) params c.stages [] noEv, ls.any (·.2.1), ls.any (·.2.2)))
      let run := { run with cvo := run.cvo || vec.any (·.2.2.1), nf := run.nf || vec.any (·.2.2.2),
                            ev := vec.foldl (fun e p => e.or p.2.1.2) run.ev }
      let put := fun (d : Desc) (k : Nat) (run : VeRun) =>
        putElems q c d co (vec.map (fun p => (p.1, p.2.1.1.getD k 0))) run
      let run := if c.red then run else put c.out0 (c.stages.length - 1) run
      let run := if c.topk then run else match c.out1 with
        | some d => put d c.o1s run
        | none => run
      (run, r.2 ++ vec.map (fun p => p.2.1.1.getD (c.stages.length - 1) 0))

/-- The results of a row's reduction are written (R92, R93). -/
def reduceStep (q : Nat) (c : Chain) (co : List Nat) (vals : List W32) (r : VeRun) : VeRun :=
  let x := reduceRow c.last c.width vals
  let r := r.event x.2.2
  let put := fun (d : Desc) (vs : List W32) (r : VeRun) => putElems q c d co ((List.range vs.length).zip vs) r
  let r := put c.out0 x.1 r
  match c.out1 with
  | some d => put d x.2.1 r
  | none => r

/-- One row of a chain. -/
def rowStep (q : Nat) (c : Chain) (sc : Scales) (lut par : List Byte) (params : Tab W32) (r : VeRun) (row : Nat) : VeRun :=
  if r.bad.isSome then r
  else
    let co := c.shape.coords row
    let x := (List.range (ceilDiv (c.shape.n 0) c.width)).foldl (vectorStep q c sc lut par params co) (r, [])
    if c.red && x.1.bad.isNone then reduceStep q c co x.2 x.1 else x.1

/-- The LUT copy is loaded where its tag differs or RELOAD is set (R94). -/
def lutLoad (q : Nat) (t : Stage) (r : VeRun) : VeRun :=
  let tag := 2 ^ 31 + fld t.aux 0 17
  if r.s.qreg q 0x204 = w32 tag && !bitAt t.mod 1 then r
  else
    let p := lutRange t
    (r.touch q [p]).go (fun r =>
      let bs := r.bytes q p.1 p.2
      { r with s := (r.s.setQuay q { r.s.quay q with lut := bs }).setQreg q 0x204 (w32 tag) })

/-- qclk of one vector (R97). -/
def vectorClocks (c : Chain) (v : Nat) : Nat :=
  let act := min c.width (c.shape.n 0 - v * c.width)
  let side := fun (ds : List Desc) => ds.foldl (fun n d =>
    n + (if d.acc then 0 else if d.st 0 = d.eb then act * d.eb else if d.st 0 = 0 then d.eb else 0)) 0
  let ins := c.ins.filterMap id
  let outs := (if c.red then [] else [c.out0]) ++ (if c.topk then [] else c.out1.toList)
  let slow := (c.stages.map (fun t => ((opSpec t.op).map (·.per)).getD 1)).foldl max 1
  let gathered := if ins.any (fun d => !d.acc && d.st 0 != 0 && d.st 0 != (d.eb : Int)) then ceilDiv act 8 else 0
  max (max slow gathered) (max (ceilDiv (side ins) 512) (ceilDiv (side outs) 512))

/-- The LUT load of R94, one 64 B block per qclk. -/
def lutClocks (c : Chain) (load : Bool) : Nat :=
  match c.lut with
  | some t => if load then ceilDiv (lutRange t).2 64 else 0
  | none => 0

/-- L_tab of R97: the LUT load, and 8 qclk for the parents of an ANC stage. -/
def tableClocks (c : Chain) (load : Bool) : Nat := lutClocks c load + (if c.anc.isSome then 8 else 0)

/-- P of R97: the pre-scan of the flags. -/
def scanFlags (c : Chain) (scan : Bool) : Nat := if scan then ceilDiv (c.shape.n 1) 8 else 0

/-- The sum of C_v over the vectors of a chain (R97). -/
def vectorsClocks (c : Chain) : Nat :=
  c.shape.items * (List.range (ceilDiv (c.shape.n 0) c.width)).foldl (fun n v => n + vectorClocks c v) 0

/-- The sum of the stage latencies (R90, R97). -/
def latencies (c : Chain) : Nat := (c.stages.map (fun t => ((opSpec t.op).map (·.lat)).getD 0)).foldl (· + ·) 0

/-- The tail of a reduction (R97). -/
def tailClocks (c : Chain) : Nat :=
  let k := c.last.op
  if k = 0x40 then 21 else if k = 0x46 then 16 + c.last.mod else if isReduction k then 7 else 0

/-- T of R97 without stalls. `load` and `scan` say whether the LUT loads and the flags are read first. -/
def chainClocks (c : Chain) (load scan : Bool) : Nat :=
  16 + tableClocks c load + scanFlags c scan + vectorsClocks c + latencies c + tailClocks c

/-- A trap of ACC_CTRL is set (R49). -/
def trapsOn (s : State) (q : Nat) : Bool := s.fieldAt (qkey q 0x184) 0 2 != 0

/-- The trap that the accumulator source of a list of inputs meets (R82). -/
def veTrap (s : State) (q : Nat) (ins : List (Option Desc)) : Option Raised :=
  (accInput ins).bind (fun d => trapOf s q d.crane d.row0 (d.n 1) d.col0 (d.n 0))

/-- A run that begins. -/
def veBegin (s : State) : VeRun := { s := s, ev := noEv, cvo := false, nf := false, bad := none }

/-- The table and parent reads of a chain, which come before its pre-scan of the flags (R94, R96, R466). -/
def chainTables (q : Nat) (c : Chain) (s : State) : VeRun :=
  let r := match c.lut with
    | some t => lutLoad q t (veBegin s)
    | none => veBegin s
  r.go (fun r => match c.anc with
    | some t => r.touch q [ancRange t]
    | none => r)

/-- The vectors of a chain, in row order (R88, R89, R466). -/
def chainRun (q : Nat) (c : Chain) (rd : Reader) (params : Tab W32) (r : VeRun) : VeRun :=
  let sc := ((accInput c.ins).map (fun d => d.scales rd)).getD noScales
  r.go (fun r =>
    let par := match c.anc with
      | some t => r.bytes q (ancRange t).1 (ancRange t).2
      | none => []
    (List.range c.shape.items).foldl (rowStep q c sc (r.s.quay q).lut par params) r)

/-! ### Compress and expand -/

/-- Selected items in order: with KEY by key, then by item (R99). -/
def selectItems (key : Bool) (buckets : Nat) (ks : List W32) : List Nat :=
  let ps := ks.zip (List.range ks.length)
  if key then (List.range buckets).flatMap (fun b => (ps.filter (fun p => p.1 = w32 b)).map (·.2))
  else (ps.filter (fun p => p.1 != 0)).map (·.2)

/-- One selected item is copied bit for bit (R99). -/
def moveItem (q : Nat) (c : Compress) (r : VeRun) (p : Nat × Nat) : VeRun :=
  r.go (fun r =>
    let is := List.range (c.d.n 0)
    let co := c.d.coords p.2
    (r.touch q (is.map (fun i0 => (c.d.at i0 co, c.d.eb)))).go (fun r =>
      let vs := is.map (fun i0 => r.bytes q (c.d.at i0 co) c.d.eb)
      r.writes q ((is.zip vs).map (fun v => (c.o.at v.1 [p.1], v.2)))))

/-- Values written to a RANK 1 output from its first element on (R99). -/
def putIndices (q : Nat) (d : Desc) (vs : List Nat) (r : VeRun) : VeRun :=
  let es := ((List.range vs.length).zip vs).map (fun v => (d.at v.1 [], elemOf d.typ 0 false (w32 (min v.2 (2 ^ 31 - 1)))))
  (r.writes q (es.map (fun e => (e.1, e.2.1)))).event { noEv with cvo := es.any (·.2.2) }

/-- The codes or keys of a VCMP's items as its scan reads them (R99). -/
def scanKeys (s : State) (q : Nat) (c : Compress) : List W32 :=
  (List.range c.d.items).map (fun i => laneOf c.p.typ (s.apron q (c.p.at 0 (c.p.coords i)) c.p.eb))

/-- Items that a VCMP selects, in order (R99). -/
def selected (s : State) (q : Nat) (c : Compress) : List Nat := selectItems c.key c.buckets (scanKeys s q c)

/-- VCMP at work: the scan, the moves, then X and F (R99, R466). Its counter takes the count when the scan ends (R150). -/
def compressRun (q : Nat) (c : Compress) (s : State) : VeRun :=
  let qs := List.range c.d.items
  ((veBegin s).touch q (qs.map (fun i => (c.p.at 0 (c.p.coords i), c.p.eb)))).go (fun r =>
    let ks := scanKeys r.s q c
    let sel := selected r.s q c
    let cap := c.o.n 1
    let r := r.event { noEv with cmpOvf := decide (cap < sel.length) }
    let js := (List.range (min sel.length cap)).zip sel
    (js.foldl (moveItem q c) r).go (fun r =>
      let r := putIndices q c.x (js.map (·.2)) r
      match c.f with
      | none => r
      | some f => putIndices q f ((List.range (c.buckets + 1)).map (fun (b : Nat) =>
          (ks.filter (fun k => decide (0 ≤ k.toInt) && decide (k.toInt < (b : Int)))).length)) r))

/-- Qclk from the start of a VCMP to the end of its scan (R101, R150). -/
def scanClocks (c : Compress) : Nat := 8 + ceilDiv c.d.items 128 + (if c.key then ceilDiv c.buckets 128 else 0)

/-- Qclk of a VCMP (R101). -/
def compressClocks (c : Compress) (n : Nat) : Nat :=
  let m := min n (c.o.n 1)
  scanClocks c + m * max 1 (ceilDiv (c.d.n 0 * c.d.eb) 512) + ceilDiv m 128 + 8

/-- Element i0 of item j of a packed input, as I[j] (R100). -/
def itemCoords (j : Nat) : List Nat := [j]

/-- The bytes that element i0 of item j gives item `item` of D′, as D′ stands, and the events: the stage NaN of ADD and ADDW,
CVO of their conversion, and a sum that reads +0, by the same rules as a chain's: the model's choice (R91, R100, entry 106). -/
def expandElem (s : State) (q : Nat) (c : Expand) (sc : Scales) (j : Nat) (wt : W32) (a i0 : Nat) : List Byte × VeEvents :=
  let l := (laneAt s q c.i sc i0 (itemCoords j)).1
  if c.mode = 0 then (if c.i.acc then leBytes 4 l.toNat else s.apron q (c.i.at i0 (itemCoords j)) c.i.eb, noEv)
  else
    let old := laneOf c.d.typ (s.apron q a c.d.eb)
    let v := if c.mode = 1 then fAdd old l else fFma wt l old
    let args := if c.mode = 1 then [old, l] else [wt, l, old]
    let e := elemOf c.d.typ 0 false v
    (e.1, { nanEv v args with cvo := e.2 })

/-- One item of a VEXP: an index at or beyond the item count is skipped, and by the model's choice one below 0 too (R100, entry
106). The reads of the item come before its writes, X[j], Wt[j], I[j] and D′[q] in that order, and the item's codewords are merged once (R109, R466); elements
that zero strides map to one address follow one another. -/
def expandItem (q : Nat) (c : Expand) (sc wsc : Scales) (r : VeRun) (j : Nat) : VeRun :=
  r.go (fun r =>
    let is := List.range (c.i.n 0)
    (r.touch q ((c.x.at j [], c.x.eb) :: (c.w.map (fun d => lanesRead d wsc j [])).getD [])).go (fun r =>
      let x := (laneOf c.x.typ (r.bytes q (c.x.at j []) c.x.eb)).toInt
      if x < 0 || (c.d.items : Int) ≤ x then r.event { noEv with expOor := true }
      else
        let co := c.d.coords x.toNat
        let at' := is.map (fun i0 => (c.d.at i0 co, c.d.eb))
        (r.touch q (is.flatMap (fun i0 => lanesRead c.i sc i0 (itemCoords j)) ++ (if c.mode = 0 then [] else at'))).go (fun r =>
          let wl := (c.w.map (fun d => laneAt r.s q d wsc j [])).getD (0, false, false)
          let ls := is.map (fun i0 => laneAt r.s q c.i sc i0 (itemCoords j))
          let r := { r with cvo := r.cvo || wl.2.1 || ls.any (·.2.1), nf := r.nf || wl.2.2 || ls.any (·.2.2) }
          let s := (joinRuns (ascending at')).foldl (fun s p => s.eccWrite (stackAddr q 0 p.1) p.2) r.s
          is.foldl (fun r i0 =>
            let a := c.d.at i0 co
            let e := expandElem r.s q c sc j wl.1 a i0
            { r with s := r.s.setMem (r.s.stack.mem.write (stackAddr q 0 a) e.1), ev := r.ev.or e.2 }) { r with s := s })))

/-- N of a VEXP: counter n read at its start (R100, R150). -/
def expandCount (s : State) (q : Nat) (c : Expand) : Nat :=
  match c.cnt with
  | some k => min (s.reg (kCnt q k)).toNat (c.i.n 1)
  | none => c.i.n 1

/-- Every element of a tensor: its address. -/
def Desc.elems (d : Desc) : List Nat :=
  (List.range d.items).flatMap (fun i => (List.range (d.n 0)).map (fun i0 => d.at i0 (d.coords i)))

/-- VEXP at work (R100). -/
def expandRun (q : Nat) (c : Expand) (rd : Reader) (s : State) : VeRun :=
  let sc := c.i.scales rd
  let wsc := (c.w.map (fun d => d.scales rd)).getD noScales
  let r := veBegin s
  let r := if c.zero then r.writes q (c.d.elems.map (fun a => (a, leBytes c.d.eb 0))) else r
  (List.range (expandCount s q c)).foldl (expandItem q c sc wsc) r

/-- Qclk of a VEXP of n items (R101). -/
def expandClocks (c : Expand) (n : Nat) : Nat :=
  let row := if c.mode = 0 then max 1 (ceilDiv (c.i.n 0 * c.i.eb) 512) else max 2 (2 * ceilDiv (c.i.n 0) 128)
  16 + (if c.zero then ceilDiv (c.d.elems.eraseDups.length * c.d.eb) 512 else 0) + n * row

/-! ### Issue, start and completion (R98, R162, R466) -/

/-- A VE instruction that passed its checks. -/
inductive VeWork where
  | chain (c : Chain)
  | compress (c : Compress)
  | expand (c : Expand)
deriving DecidableEq, Repr

/-- The checks of R102 for a word. -/
def veCheck (rd : Reader) (w : W128) : Checked VeWork :=
  if wf w 0 8 = 0x30 then (match chainOf rd (wf w 24 13 * 64) with
    | .ok c => .ok (.chain c)
    | .error e => .error e)
  else if wf w 0 8 = 0x31 then (match compressOf rd w with
    | .ok c => .ok (.compress c)
    | .error e => .error e)
  else match expandOf rd w with
    | .ok c => .ok (.expand c)
    | .error e => .error e

/-- The chain record of a word, latched first (R98, R162). -/
def recordRange (w : W128) : List (Nat × Nat) := if wf w 0 8 = 0x30 then [(wf w 24 13 * 64, 128)] else []

/-- Descriptor addresses of a word, from its record or its fields. -/
def descRanges (rd : Reader) (w : W128) : List (Nat × Nat) :=
  let fs :=
    if wf w 0 8 = 0x30 then (List.range 5).map (fun i => leAt (rd (wf w 24 13 * 64) 128) (2 * i) 2)
    else if wf w 0 8 = 0x31 then [wf w 24 14, wf w 38 14, wf w 52 14, wf w 66 14, wf w 80 14]
    else [wf w 24 14, wf w 38 14, wf w 52 14, wf w 66 14]
  (fs.filter (fun f => decide (f < descLimit))).map (fun f => (32 * f, 32))

/-- Scale blocks of the descriptors, inside the apron. -/
def blockRanges (rd : Reader) (ds : List (Nat × Nat)) : List (Nat × Nat) :=
  (ds.filterMap (fun p => (descOf p.1 (rd p.1 32)).blockAt)).filterMap (fun a =>
    if a + 64 ≤ 0x60000 then some (a, 64) else none)

/-- Some byte of the ranges is still written by a live entry (R98, R162). -/
def latchHeld (x : Quay) (ps : List (Nat × Nat)) : Bool :=
  anyConflict x .ve false (ps.map (fun p => apronRegion p.1 p.2 false))

/-- The region of a tensor: its bounding range, or the rows of an accumulator source with its arrays (R98, R166). -/
def tensorRegions (d : Desc) (write : Bool) (rd : Reader) : List Region :=
  if d.acc then
    let sc := d.scales rd
    [accRegion (2 ^ d.crane) d.row0 (d.n 1) false] ++
    (d.blockAt.map (fun a => apronRegion a 64 false)).toList ++
    (sc.rAt.map (fun a => apronRegion (a + 4 * d.row0) (4 * d.n 1) false)).toList ++
    (sc.cAt.map (fun a => apronRegion (a + 4 * d.col0) (4 * d.n 0) false)).toList
  else [apronRegion d.range.1.toNat d.range.2.toNat write]

/-- The regions of a VE instruction (R166). -/
def veRegions (rd : Reader) : VeWork → List Region
  | .chain c =>
    ((c.ins.filterMap id).flatMap (fun d => tensorRegions d false rd)) ++
    ([c.out0] ++ c.out1.toList).flatMap (fun d => tensorRegions d true rd) ++ [apronRegion c.crec 128 false] ++
    ((c.lut.map lutRange).toList ++ (c.anc.map ancRange).toList).map (fun p => apronRegion p.1 p.2 false)
  | .compress c =>
    [c.d, c.p].flatMap (fun d => tensorRegions d false rd) ++
    ([c.o, c.x] ++ c.f.toList).flatMap (fun d => tensorRegions d true rd)
  | .expand c => ([c.i, c.x] ++ c.w.toList).flatMap (fun d => tensorRegions d false rd) ++ tensorRegions c.d true rd

/-- Destination elements of a VE instruction: addresses and element bytes. -/
def veDests : VeWork → List (Nat × Nat)
  | .chain c => ([c.out0] ++ c.out1.toList).flatMap (fun d => d.elems.map (fun a => (a, d.eb)))
  | .compress c => ([c.o, c.x] ++ c.f.toList).flatMap (fun d => d.elems.map (fun a => (a, d.eb)))
  | .expand c => c.d.elems.map (fun a => (a, c.d.eb))

/-- The VE instruction of a quay is gone, and its entries with it (R169). -/
def dropVe (q id : Nat) (s : State) : State :=
  let x := (s.quay q).release id
  s.setQuay q { x with ve := none }

/-- The regions of a chain with the qclk of its start in which each is released, where that is before its end: tables after
their load, inputs after the last vector's reads, and element-wise outputs of a reduction after the last vector's writes
(R169, R466). -/
def chainFrees (c : Chain) (rd : Reader) (load scan : Bool) : List (Nat × Region) :=
  let l := 8 + lutClocks c load
  let s := 8 + tableClocks c load + scanFlags c scan
  let v := s + vectorsClocks c
  (c.lut.map (fun t => (l, apronRegion (lutRange t).1 (lutRange t).2 false))).toList ++
  (c.anc.map (fun t => (l + 1, apronRegion (ancRange t).1 (ancRange t).2 false))).toList ++
  ((c.ins.filterMap id).flatMap (fun d => tensorRegions d false rd)).map (fun g => (v, g)) ++
  (if c.red && !c.topk then (c.out1.toList.flatMap (fun d => tensorRegions d true rd)).map (fun g => (v + latencies c + 8, g))
   else [])

/-- The same for a VCMP with n items selected: P after the scan, D and O after the moves (R466). -/
def compressFrees (c : Compress) (rd : Reader) (n : Nat) : List (Nat × Region) :=
  let moved := scanClocks c + min n (c.o.n 1) * max 1 (ceilDiv (c.d.n 0 * c.d.eb) 512)
  (tensorRegions c.p false rd).map (fun g => (8 + ceilDiv c.d.items 128, g)) ++
  (tensorRegions c.d false rd ++ tensorRegions c.o true rd).map (fun g => (moved, g)) ++
  ([c.x] ++ c.f.toList).flatMap (fun d => (tensorRegions d true rd).map (fun g => (compressClocks c n - 8, g)))

/-- The same for a VEXP: nothing is touched in its last 8 qclk (R466). -/
def expandFrees (c : Expand) (rd : Reader) (n : Nat) : List (Nat × Region) :=
  (veRegions rd (.expand c)).map (fun g => (expandClocks c n - 8, g))

/-- Inputs of a VE instruction that may be accumulator sources. -/
def VeWork.inputs : VeWork → List (Option Desc)
  | .chain c => c.ins
  | .compress _ => []
  | .expand c => [some c.i, some c.x, c.w]

/-- The LUT of a chain is loaded at its start: its tag differs, is invalid, or RELOAD is set (R94). -/
def VeWork.loads (s : State) (q : Nat) : VeWork → Bool
  | .chain c => c.lut.any (fun t => s.qreg q 0x204 != w32 (2 ^ 31 + fld t.aux 0 17) || bitAt t.mod 1)
  | _ => false

/-- The flags of an accumulator source are read first (R82). -/
def VeWork.scans (s : State) (q : Nat) (k : VeWork) : Bool := (accInput k.inputs).isSome && trapsOn s q

/-- Qclk that a VE instruction runs for without apron stalls, from the state it starts in (R97, R101). -/
def VeWork.clocks (s : State) (q : Nat) (k : VeWork) : Nat :=
  match k with
  | .chain c => chainClocks c (k.loads s q) (k.scans s q)
  | .compress c => compressClocks c (selected s q c).length
  | .expand c => expandClocks c (expandCount s q c)

/-- The regions that a VE instruction gives back before its end (R466). -/
def VeWork.frees (rd : Reader) (s : State) (q : Nat) (k : VeWork) : List (Nat × Region) :=
  match k with
  | .chain c => chainFrees c rd (k.loads s q) (k.scans s q)
  | .compress c => compressFrees c rd (selected s q c).length
  | .expand c => expandFrees c rd (expandCount s q c)

/-- What a VCMP's counter takes, and when (R150). -/
def VeWork.scan (s : State) (q : Nat) : VeWork → Option (Nat × Nat × W32)
  | .compress c => some (scanClocks c, c.cnt, w32 (selected s q c).length)
  | _ => none

/-- Qclk in progress up to a trap that the pre-scan of the flags finds (R82, R103, R466). -/
def VeWork.trapClocks (s : State) (q : Nat) (k : VeWork) : Nat :=
  8 + match k with
    | .chain c => tableClocks c (k.loads s q) + scanFlags c true
    | _ => ceilDiv (((accInput k.inputs).map (fun d => d.n 1)).getD 0) 8

/-- The values of a VE instruction, after the reads of its tables. -/
def VeWork.run (q : Nat) (rd : Reader) (params : Tab W32) (r : VeRun) : VeWork → VeRun
  | .chain c => chainRun q c rd params r
  | .compress c => compressRun q c r.s
  | .expand c => expandRun q c rd r.s

/-- What a VE instruction reads before its flags. -/
def VeWork.tables (q : Nat) (s : State) : VeWork → VeRun
  | .chain c => chainTables q c s
  | _ => veBegin s

/-- Events of a run reach VE_STATUS, and those of its accumulator source ACC_STATUS (R48, R103). -/
def veEvents (q : Nat) (inputs : List (Option Desc)) (r : VeRun) : State :=
  let s := r.s.veStatus q r.ev
  match accInput inputs with
  | some d => s.convStatus q d.crane r.cvo r.nf
  | none => s

/-- A VE instruction ends in an uncorrectable codeword after some of its clocks: what it was writing is indeterminate (R103,
R123, entry 3). -/
def veAbandon (q : Nat) (j : VeJob) (k : VeWork) (clocks bad : Nat) (s : State) : State :=
  let n := Config.freeCount s.free % (clocks + 1)
  let s := (s.useFree.veCount q 0 n).ueFault q j.id j.index bad
  dropVe q j.id ((veDests k).foldl (fun s e => s.scrambleStack (stackAddr q 0 e.1) e.2) s)

/-- The VE starts an instruction and its values are computed: tables, the traps of R82, then the tensors (R98, R466). -/
def veStartNow (q : Nat) (j : VeJob) (s : State) : State :=
  let rd : Reader := fun a n => j.latched.read a n
  match veCheck rd j.word with
  | .error _ => dropVe q j.id s
  | .ok work =>
    let t := work.tables q s
    match t.bad with
    | some bad => veAbandon q j work (work.clocks s q) bad t.s
    | none =>
      match veTrap t.s q work.inputs with
      | some (code, i) => dropVe q j.id ((t.s.veCount q 0 (work.trapClocks s q)).dataFault q j.id j.index code i)
      | none =>
        let r := work.run q rd j.params t
        match r.bad with
        | some bad => veAbandon q j work (work.clocks s q) bad (veEvents q work.inputs r)
        | none =>
          let u := veEvents q work.inputs r
          let x := u.quay q
          u.setQuay q { x with ve := some { j with
            dur := work.clocks s q, started := true, ran := 0, scan := work.scan s q, frees := work.frees rd s q } }

/-- An instruction that has issued to an idle VE is there, and starts at once unless its start meets a data fault: then
VE_START starts it, and later instructions may issue before the fault (R98, R138 step 6, R180, entry 13). -/
def veArrive (q : Nat) (j : VeJob) (s : State) : State :=
  let x := s.quay q
  let s := s.setQuay q { x with ve := some j }
  let t := veStartNow q j s
  if (t.quay q).st = x.st then t else s

/-! ### The issue latch (R98, R162) -/

/-- The latch for the instruction at the issue point: what an earlier attempt latched, if that was this instruction. -/
def Quay.latchNow (x : Quay) : VeLatch :=
  match x.latch with
  | some l => if l.id = x.nextId && l.index = x.pc.toNat then l else { id := x.nextId, index := x.pc.toNat, ranges := [], bytes := [] }
  | none => { id := x.nextId, index := x.pc.toNat, ranges := [], bytes := [] }

/-- How far a latch read came. -/
inductive Latched where
  | whole
  | held
  | bad (codeword : Nat)
deriving DecidableEq, Repr

/-- Ranges are latched in order, each once no live entry writes its bytes, and none twice (R98, R162). -/
def latchMore (q : Nat) : List (Nat × Nat) → State × VeLatch → (State × VeLatch) × Latched
  | [], r => (r, .whole)
  | p :: ps, (s, l) =>
    if l.ranges.contains p then latchMore q ps (s, l)
    else if latchHeld (s.quay q) [p] then ((s, l), .held)
    else
      let r := s.readStack (stackAddr q 0 p.1) p.2
      match r.2.2 with
      | some bad => ((r.1, l), .bad bad)
      | none => latchMore q ps (r.1, { l with ranges := l.ranges ++ [p], bytes := l.bytes.write p.1 r.2.1 })

/-- One group of ranges after another; the later ones follow from the bytes of the earlier. -/
def latchGroups (q : Nat) : List (Reader → List (Nat × Nat)) → State × VeLatch → (State × VeLatch) × Latched
  | [], r => (r, .whole)
  | g :: gs, r =>
    match latchMore q (g (fun a n => r.2.bytes.read a n)) r with
    | (r, .whole) => latchGroups q gs r
    | x => x

/-- The bytes that the checks of R102 read: record, descriptors, scale blocks. -/
def latchPlan (w : W128) : List (Reader → List (Nat × Nat)) :=
  [fun _ => recordRange w, fun rd => descRanges rd w, fun rd => blockRanges rd (descRanges rd w)]

/-- Parameter registers as sampled at issue (R85). -/
def sampleParams (s : State) (q : Nat) : Tab W32 :=
  (List.range 64).filterMap (fun i => if s.reg (kParam q i) = 0 then none else some (i, s.reg (kParam q i)))

/-- The latch stands for the next attempt (R162). -/
def keepLatch (q : Nat) (l : VeLatch) (s : State) : State :=
  let x := s.quay q
  s.setQuay q { x with latch := some l }

/-- Latch, checks, conditions and issue of a VE instruction (R98, R102, R162). Its record, descriptors and scale block are
latched once; while it is held, the latch stays. -/
def veIssue (q : Nat) (w : W128) (s : State) : State :=
  let x := s.quay q
  if (recordRange w).any (fun p => decide (0x60000 < p.1 + p.2)) then s.raise q (some (0x31, wf w 24 13 * 64))
  else
    match latchGroups q (latchPlan w) (s, x.latchNow) with
    | ((s, _), .bad bad) => s.issueFault q (ueCode bad) (memInfo bad)
    | ((s, l), .held) => (keepLatch q l s).stalled q .conf
    | ((s, l), .whole) =>
      let rd : Reader := fun a n => l.bytes.read a n
      match veCheck rd w with
      | .error e => s.raise q (some e)
      | .ok work =>
        match s.tryIssue q .ve false (veRegions rd work) x.veWait.isNone (s.budget q 1 0) with
        | (s, false) => keepLatch q l s
        | (t, true) =>
          let j : VeJob :=
            { id := x.nextId, index := x.pc.toNat, word := w, latched := l.bytes, params := sampleParams s q, dur := 0,
              started := false, ran := 0, scan := none, frees := [] }
          let latched := (recordRange w ++ blockRanges rd (descRanges rd w)).map (fun p => apronRegion p.1 p.2 false)
          let y := { (t.quay q).releaseIf j.id (fun r => latched.contains r) with latch := none }
          if y.ve.isSome then t.setQuay q { y with veWait := some j }
          else veArrive q j (t.setQuay q y)

/-- VCH (R83 to R98). -/
def execVch (q : Nat) (s : State) : Res := .next (seqIssue q (fun op _ => op = .vch) (veIssue q) s)
/-- VCMP (R99). -/
def execVcmp (q : Nat) (s : State) : Res := .next (seqIssue q (fun op _ => op = .vcmp) (veIssue q) s)
/-- VEXP (R100). -/
def execVexp (q : Nat) (s : State) : Res := .next (seqIssue q (fun op _ => op = .vexp) (veIssue q) s)

/-- VE_START: an idle VE starts the instruction that waits, or the one that has issued to it (R98). -/
def execVeStart (q : Nat) (s : State) : Res :=
  .next (let x := s.quay q
    match x.ve, x.veWait with
    | none, some j => veStartNow q j (s.setQuay q { x with ve := some j, veWait := none })
    | some j, _ => if j.started then s else veStartNow q j s
    | none, none => s)

/-- The counter of a VCMP takes its count at the end of the scan (R150). -/
def veScanEnd (q : Nat) (j : VeJob) (s : State) : State :=
  match j.scan with
  | some (_, n, v) => s.setReg (kCnt q n) v
  | none => s

/-- VE_DONE: a VE instruction has written its last element: its scan is over, its entries are released, and VE_ACT and
VE_STALL have counted its qclk, with those that apron stalls added free (R97, R103, entry 3). -/
def execVeDone (q : Nat) (s : State) : Res :=
  .next (match (s.quay q).ve with
    | none => s
    | some j =>
      if !j.started then s
      else
        let f := Config.freeCount s.free
        dropVe q j.id (((veScanEnd q j s).useFree.veCount q 0 (j.dur + f)).veCount q 1 f))

end Sys2Proof.Machine
end

