-- ==== Sys2Proof/Machine/Chart.lean ====
section
/-! DEFINITION. The tide sequencer and the chart machinery: submission, check, load, start, boundaries, phases, slack and
extensions, elastic holds, stop and switch (R173 to R175, R186 to R197, R210 to R216, R384). -/

namespace Sys2Proof.Machine

/-! ### States (R216) -/

/-- CHART_STATUS.STATE changes (R425, R445). -/
def setChart (st : Nat) (s : State) : State :=
  if s.chartState = st then s else ((s.setField (kChart 4) 0 4 st).trace 2 0 0xFFFF []).note 160

/-- CHART_STATUS.STBY. -/
def State.stby (s : State) : Nat := s.fieldAt (kChart 4) 4 4

/-- CHART_STATUS.STBY changes (R445). -/
def setStby (st : Nat) (s : State) : State :=
  if s.stby = st then s else (s.setField (kChart 4) 4 4 st).trace 2 0 0xFFFF []

/-- A command is not accepted: CMD_REJ (R216). -/
def chartReject (s : State) : State := (s.orReg (kChart 4) 0x1000).note 160

/-- The tide record replaced. -/
def State.setTide (s : State) (t : Tide) : State := { s with tide := t }

/-- The submission under way: the standby's, or the cold start's. -/
def State.pendingSub (s : State) : Option Submission := if s.stby = 0 || s.stby = 5 then s.tide.sub else s.tide.succSub

/-- The values that the arming point fixed for a quay apply. -/
def flushArmed (s : State) (q : Nat) : State :=
  let x := s.quay q
  match x.armed with
  | some b => b.1.foldl storeWaiting (s.setQuay q { x with armed := none })
  | none => s

/-- What waits for a boundary applies while no chart runs, earlier writes first (R174, R422). -/
def flushStaged (s : State) : State :=
  let s := (List.range 144).foldl flushArmed s
  let s := s.staged.foldl storeWaiting s
  { s with staged := [] }

/-- No chart is left, in state `st`: a successor in preparation is dropped, no quay belongs to a basin (R213, R214). -/
def chartEnd (st by' : Nat) (s : State) : State :=
  let s := s.setTide { s.tide with chart := none, succ := none, sub := none, succSub := none, exts := [], heldSince := none,
                                   loaded := false, loadFailed := false, changed := [], ended := false }
  let s := ((s.setReg (kChart 0x40) 0).setReg (kChart 0x44) 0).setCnt64 (kChart 0x20) 0
  let s := (List.range 144).foldl (fun s q => s.setField (qkey q 0x40) 31 1 0) s
  serveStop (setChart st (setStby by' (flushStaged s)))

/-- A refusal with a code (R211): the reason is shown. A running chart goes on; a switch refused after its drain leaves no
chart running, and one refused as LATE may be taken up again (R214). -/
def chartRefuse (code : Nat) (s : State) : State :=
  let s := (s.setField (kChart 4) 16 8 code).note 160
  if s.stby = 0 || s.stby = 5 then chartEnd 6 s.stby s
  else if s.tide.ended then
    let late := match s.tide.succSub, s.tide.chart with
      | some sub, some c => if code = 0xB5 then some (sub.buf, c.id, c.tokenBytes, c.layers) else none
      | _, _ => none
    let s := chartEnd 6 5 s
    s.setTide { s.tide with late := late }
  else
    let s := s.setTide { s.tide with succ := none, succSub := none, loaded := false, loadFailed := false, changed := [] }
    setStby 5 (s.setCnt64 (kChart 0x20) 0)

/-! ### Submission (R210, R315, R317) -/

/-- CHART_EN may be taken now: the state, the port distances of the boot recomputed (R22), no armed slack-water sync, no
re-plan, and alignment for a Stillwater image. -/
def State.chartEnOk (s : State) (isSwitch buf : Bool) : Bool :=
  (if isSwitch then s.chartState = 4 && (s.stby = 0 || s.stby = 5) else (s.chartState = 0 || s.chartState = 6) && s.distValid) &&
  s.fieldAt 0x1C00044 1 1 = 0 && !s.power.replan &&
  (!imgSw (s.chartBuf.read (bit buf * 16777216) 64) || s.fieldAt 0x1C00044 0 1 = 1)

/-- CHART_EN, alone or with SWITCH: the registers are sampled and the check begins; a CHART_START that has passed refuses
the chart at once (R211). -/
def chartSubmit (isSwitch buf : Bool) (s : State) : State :=
  if !s.chartEnOk isSwitch buf then chartReject s
  else
    let sub : Submission :=
      { buf := buf, startAt := s.pair (kChart 8), switchAt := s.pair (kChart 0x10), enAt := s.now, isSwitch := isSwitch,
        again := !isSwitch && s.tide.late.any (fun l => l.1 = buf) }
    let s := if isSwitch then setStby 1 (s.setTide { s.tide with succSub := some sub, loaded := false, loadFailed := false })
      else setChart 1 (s.setTide { s.tide with sub := some sub, loaded := false, loadFailed := false, ended := false })
    if sub.startAt.toNat ≤ s.now.toNat then chartRefuse 0xB5 s else s

/-- BUF, then the commands of a CHART_CTRL write (R9, R216). -/
def chartCtrlStore (rq : Req) (f : W32 × W32) (s : State) : State :=
  if s.power.replan then chartReject s
  else
    let v := f.1 &&& f.2
    let s := s.setReg (kChart 0) (mergeBits (s.reg (kChart 0)) (f.1, f.2 &&& 0x100))
    let en := getBits v 0 1 = 1
    let sw := getBits v 1 1 = 1
    let stop := getBits v 2 1 = 1
    let buf := s.fieldAt (kChart 0) 8 1 = 1
    if (stop && en) || (sw && !en) then s.regRsvd rq 0x100000
    else if en then chartSubmit sw buf s
    else if stop then
      if s.chartState = 4 then setChart 5 s else chartReject s
    else s

/-- CHART_EN with BUF. -/
def execChartEn (buf : Bool) (s : State) : Res := .next (chartCtrlStore .host (w32 (1 + 256 * bit buf), 0xFFFFFFFF) s)
/-- CHART_EN with SWITCH. -/
def execSwitch (buf : Bool) (s : State) : Res := .next (chartCtrlStore .host (w32 (3 + 256 * bit buf), 0xFFFFFFFF) s)
/-- STOP, with BUF as it stands. -/
def execChartStop (s : State) : Res :=
  .next (chartCtrlStore .host (w32 (4 + 256 * s.fieldAt (kChart 0) 8 1), 0xFFFFFFFF) s)

/-! ### Load (R212, R384) -/

/-- The route table of a ROUTES section, unassigned entries left out. -/
def routeTable (b : List Byte) : Tab Route :=
  (((recordsOf 16 b).zipIdx).map (fun e => (e.2, routeOf e.1))).filter (fun e => e.2 != Route.init)

/-- Quay q is assigned by a chart: QTENANT, and SCRUB where its tenant changes (R384, R398). The flag names a change. -/
def assignQuay (c : Chart) (s : State) (q : Nat) : State × Bool :=
  match c.basinOf q with
  | none => (s.setField (qkey q 0x40) 31 1 0, false)
  | some b =>
    let changed := s.tenantOf q != some b.tenant.toNat
    let s := s.setQreg q 0x40 (w32 (3 * 2 ^ 30 + b.tenant.toNat))
    if changed then
      let x := s.quay q
      (s.setQuay q { x with st := .scrub }, true)
    else (s, false)

/-- Every quay is assigned; the quays that change tenant are noted for the zero-fill. -/
def assignQuays (c : Chart) (s : State) : State :=
  (List.range 144).foldl (fun s q =>
    if !s.enabled q then s
    else
      let r := assignQuay c s q
      if r.2 then r.1.setTide { r.1.tide with changed := r.1.tide.changed ++ [q] } else r.1) s

/-- Stages 1 to 3 of the load: modes, routes and owned EIDs, container fields, tenant scrubs. -/
def loadBegin (c : Chart) (img : Img) (isSwitch : Bool) (s : State) : State :=
  let s := s.setReg 0x400 (w32 c.blockMode.toNat)
  let s := { s with fabric := { s.fabric with
      routes := routeTable (secOf img 6), home := c.home, eids := c.eids, cto := c.cto, adaptMesh := c.adaptMesh,
      adaptFabric := c.adaptFabric, windows := if isSwitch then s.fabric.windows else [] } }
  let s := { s with stack := { s.stack with container := 64 * c.tokenBytes * c.layers } }
  let s := s.setTide { s.tide with changed := [], loaded := false, loadFailed := false }
  assignQuays c s

/-- Bytes written into a logbook, with fresh check bits (R172). -/
def logLoad (q ofs : Nat) (bs : List Byte) (s : State) : State :=
  { s with stack := { s.stack with
      logbook := s.stack.logbook.write (logAddr q ofs) bs,
      ecc := tabClear s.stack.ecc (logEccKey q ofs) bs.length } }

/-- The initial parameter values of a quay. -/
def loadParams (q : Nat) (vs : List W32) (s : State) : State :=
  (vs.zipIdx).foldl (fun s v => s.setReg (kParam q v.2) v.1) s

/-- One logbook record of the load (R172, R206). -/
def loadLogbook (img : Img) (s : State) (r : LogRec) : State :=
  if !(s.quay r.quay).st.isStopped then s.logRefused r.quay
  else
    let s := logLoad r.quay 0 (slice img r.code (16 * r.len)) s
    let s := (s.setQreg r.quay 8 (w32 r.len)).setQreg r.quay 0xC (w32 r.start)
    let s := loadParams r.quay r.params (s.setQreg r.quay 0x13C (w32 r.sbLimit))
    let x := s.quay r.quay
    s.setQuay r.quay { x with lag := BitVec.ofNat 4 r.lag }

/-- A byte lies in the hold column of a quay whose tenant changes, outside every KEEP range, or past the last container
slot of its context column (R384 step 3). -/
def zeroFilled (c : Chart) (isSwitch : Bool) (s : State) (a : Nat) : Bool :=
  s.tide.changed.contains (saQuay a) &&
  ((saSpace a = 1 &&
      !(isSwitch && c.shards.any (fun d => d.keep && decide (sadr d.dst.toNat ≤ a) && decide (a < sadr d.dst.toNat + d.len)))) ||
   (saSpace a = 2 && decide (s.slotCount * s.stack.container ≤ saOffset a)))

/-- The zero-fill of R384 step 3. -/
def zeroFill (c : Chart) (isSwitch : Bool) (s : State) : State :=
  { s with stack := { s.stack with
      mem := s.stack.mem.filter (fun m => !zeroFilled c isSwitch s m.1),
      ecc := s.stack.ecc.filter (fun m => !(decide (m.1 < 2 ^ 40) && zeroFilled c isSwitch s m.1)) } }

/-- The shard descriptors in order; a page that cannot be read ends the load (R205, R214, R371), and so does a column that the
silo's corner cannot reach over the mesh, whose words are discarded (R17, R18). -/
def copyShards (isSwitch : Bool) : List Shard → State → State
  | [], s => s
  | d :: t, s =>
    let dst := sadr d.dst.toNat
    if d.keep && isSwitch then copyShards isSwitch t s
    else if d.zero then copyShards isSwitch t (s.zeroStack dst d.len)
    else
      let a := (s.slotRec d.slot).addr + d.sofs
      if s.badPage a d.len then
        let s := s.slogPush 0xE0 d.slot a
        s.setTide { s.tide with loadFailed := true }
      else if !s.routable siloRouter (saQuay dst) then s.setTide { s.tide with loadFailed := true }
      else
        let s := meshAdapt true siloRouter (saQuay dst) s
        copyShards isSwitch t (s.writeStack dst (s.silo.mem.read a d.len))

/-! ### Lifeboat fill (R364) -/

/-- LB_STATUS shows a state and a result. -/
def setLb (st result : Nat) (s : State) : State := ((s.setField (kMb 0x6C) 0 4 st).setField (kMb 0x6C) 4 4 result).note 174

/-- The stripe map is well-formed. -/
def stripeMapOk (s : State) (m : List Byte) : Bool :=
  let n := leAt m 4 4
  leAt m 0 4 = 0x4C424F54 && 1 ≤ n && n ≤ 4096 && zeros m 16 63 && m.length = 64 + 32 * n &&
  (recordsOf 32 (m.drop 64)).all (fun e =>
    leAt e 4 4 % 64 = 0 && leAt e 4 4 != 0 && leAt e 8 8 % 1024 = 0 && decide (leAt e 8 8 < 2 ^ 42) && zeros e 20 27 &&
    (s.checkStack (sadr (leAt e 16 4)) (leAt e 4 4)).isNone)

/-- What one stripe brings: the first buddy's bytes, or the second's, that have the map's length and CRC. -/
def stripeData (e : List Byte) (r : HostRead × HostRead) : Option (List Byte) :=
  let ok := fun (b : List Byte) => b.length = leAt e 4 4 && (crc32c b).toNat = leAt e 28 4
  match r.1.filter ok with
  | some b => some b
  | none => r.2.filter ok

/-- The stripes in map order; a stripe that neither buddy gives stops the load. -/
def fillStripes : List (List Byte) → List (HostRead × HostRead) → State → State
  | [], _, s => setLb 3 1 s
  | e :: es, rs, s =>
    match stripeData e (rs.headD (none, none)) with
    | some b =>
      let s := s.writeStack (sadr (leAt e 16 4)) b
      fillStripes es (rs.drop 1) (s.setField (kMb 0x6C) 16 13 (s.fieldAt (kMb 0x6C) 16 13 + 1))
    | none => setLb 4 4 (s.setTide { s.tide with loadFailed := true })

/-- The armed fill of a load. -/
def lifeboat (c : Chart) (map : HostRead) (rs : List (HostRead × HostRead)) (s : State) : State :=
  if s.fieldAt (kMb 0x6C) 0 4 != 1 then s
  else
    let s := setLb 2 0 s
    let fail := fun (r : Nat) (s : State) => setLb 4 r (s.setTide { s.tide with loadFailed := true })
    match map with
    | none => fail 2 s
    | some m =>
      if !stripeMapOk s m then fail 2 s
      else if leAt m 8 8 != c.id.toNat then fail 3 s
      else fillStripes (recordsOf 32 (m.drop 64)) rs s

/-- Stages 4 to 6 of the load, once the scrubs are done, and the lifeboat fill. -/
def loadEnd (c : Chart) (img : Img) (isSwitch : Bool) (map : HostRead) (rs : List (HostRead × HostRead)) (s : State) : State :=
  let s := s.tide.changed.foldl (fun s q => scrubEnd q s) s
  let s := c.logbooks.foldl (loadLogbook img) s
  let s := copyShards isSwitch c.shards (zeroFill c isSwitch s)
  let s := if s.tide.loadFailed then s else lifeboat c map rs s
  s.setTide { s.tide with changed := [] }

/-! ### Check done, load done -/

/-- The check passes: a cold start loads, a successor waits for SWITCH_AT. -/
def checkPassed (sub : Submission) (img : Img) (s : State) : State :=
  let c := chartOf' img
  if sub.startAt.toNat ≤ s.now.toNat then chartRefuse 0xB5 s
  else if sub.isSwitch then
    setStby 2 ((s.setTide { s.tide with succ := some c }).setCnt64 (kChart 0x20) c.id)
  else loadBegin c img sub.again (setChart 2 (s.setTide { s.tide with chart := some c }))

/-- A chart is under check. -/
def State.checking (s : State) : Bool := s.stby = 1 || s.chartState = 1

/-- The consistency check ends (R211). -/
def execChartCheckDone (s : State) : Res :=
  .next (match s.pendingSub with
    | none => s
    | some sub =>
      if !s.checking then s
      else
        let img := s.imageIn sub.buf
        match checkImage s sub.follows img with
        | some code => chartRefuse code s
        | none => checkPassed sub img s)

/-- 50 ms pass after CHART_EN with the firmware tests unfinished (R211); a CHART_START that comes first refuses the chart
with LATE. -/
def execCheckTmo (s : State) : Res :=
  .next (match s.pendingSub with
    | none => s
    | some sub =>
      if !s.checking then s
      else
        let t := sub.enAt + 50000000
        if sub.startAt.toNat ≤ t.toNat then chartRefuse 0xB5 (s.passTo sub.startAt) else chartRefuse 0xB6 (s.passTo t))

/-- The last load stage completes: ARMED, or a successor ready for its CHART_START (R212, R214). A load that stopped never
completes (R364, R371). -/
def execChartLoadDone (map : HostRead) (stripes : List (HostRead × HostRead)) (s : State) : Res :=
  .next (match s.pendingSub with
    | none => s
    | some sub =>
      let c := if sub.isSwitch then s.tide.succ else s.tide.chart
      match c with
      | none => s
      | some c =>
        if (if sub.isSwitch then s.stby != 4 else s.chartState != 2) || s.tide.loaded || s.tide.loadFailed then s
        else
          let s := loadEnd c (s.imageIn sub.buf) sub.follows map stripes s
          if s.tide.loadFailed then s
          else
            let s := (s.setTide { s.tide with loaded := true, base := sub.startAt, applied := true }).setCnt64 (kChart 0x38) sub.startAt
            if sub.isSwitch then s else setChart 3 s)

/-! ### Boundaries (R187, R190, R197) -/

/-- The phase registers (R216). -/
def setPhase (c : Chart) (k : Nat) (s : State) : State :=
  match (c.phases.drop k).head? with
  | some p => s.setReg (kChart 0x44) (w32 (p.tokset % 64 * 256 + 128 * bit p.prefill + k))
  | none => s

/-- Failure records age; those of two boundaries expire (R255). -/
def ageRecs (q g : Nat) (s : State) : State :=
  let l := ((s.quay q).recs g).map (fun r => { r with age := r.age + 1 })
  if l.isEmpty then s else putRecs q g (l.filter (fun r => decide (r.age < 2))) s

/-- A fixed batch with a MODE and PATCH_AT applies at boundary n (R174). -/
def batchApplies (n : Nat) (mode : BitVec 2) (at' : W16) : Bool := mode = 0 || (mode = 2 && at'.toNat = n % 65536)

/-- Parameter registers that the armed batch of a quay patches at boundary n (R152). -/
def Quay.patches (x : Quay) (n : Nat) : List Nat :=
  match x.armed with
  | some (vals, mode, at') => if batchApplies n mode at' then vals.map (fun v => v.1 % 0x800 / 4 - 256) else []
  | none => []

/-- The armed batch of a quay applies at boundary n, or its values wait on (R174, R175). -/
def applyBatch (q n : Nat) (s : State) : State :=
  let x := s.quay q
  match x.armed with
  | none => s
  | some (vals, mode, at') =>
    let s := s.setQuay q { x with armed := none }
    if vals.isEmpty && mode != 2 then s
    else if batchApplies n mode at' then
      let s := if mode = 2 then s.setField (qkey q 0x30) 0 2 1 else s
      if vals.isEmpty then s
      else
        let s := vals.foldl storeWaiting s
        (s.setQreg q 0x38 (s.qreg q 0x38 + 1)).setQreg q 0x3C (w32 n)
    else vals.foldl (fun s v => if (tabFind s.staged v.1).isSome then s else { s with staged := tabSet s.staged v.1 v.2 }) s

/-- A quay's hold at boundary n: WTIDE NEXT, an AT_TIDE start and a WTIDE for phase 0 release (R156, R182, R190). -/
def seeBoundary (q n : Nat) (s : State) : State :=
  let x := s.quay q
  if x.st != .run then s
  else match x.hold with
    | .tideNext =>
      let s := s.issued q
      let x := s.quay q
      s.setQuay q { x with pt := w64 n }
    | .atTide => s.setQuay q { x with hold := .none, pt := w64 n }
    | .tidePhase 0 => s.issued q
    | _ => s

/-- A quay in RUN whose program tide has fallen behind by more than LAG (R190). -/
def State.overruns (s : State) (q n : Nat) : Bool :=
  let x := s.quay q
  s.enabled q && x.st = .run && decide (x.lag.toNat < n - x.pt.toNat)

/-- The issue of whatever instruction stands at the issue point. -/
def issueAny (q : Nat) (w : W128) (s : State) : State :=
  match opOfCode (wf w 0 8) with
  | some .mov => movIssue q w s
  | some .send => sendIssue q w s
  | some .mmaOw => mmaIssue q .ow w s
  | some .mmaAc => mmaIssue q .ac w s
  | some .mmaLdo => loadIssue q .ldo w s
  | some .mmaLda => loadIssue q .lda w s
  | some .mmaDr => drainIssue q w s
  | some .vch | some .vcmp | some .vexp => veIssue q w s
  | _ => s

/-- TIDE_OVR at boundary n. An issue fault of R138 that the instruction at the issue point raises in the same qclk is the one
recorded, with MULTI (R191). -/
def overrun (q n : Nat) (s : State) : State :=
  let t := seqIssue q (fun _ _ => true) (issueAny q) s
  if (t.quay q).st = .draining then t.orReg (qkey q 0x20) 2 else s.issueFault q 0x17 (n % 2 ^ 32)

/-- One quay at boundary n: its batch, its release, the overrun check, and a STOP where the boundary stops the chart
(R174, R190, R191, R213). The instruction that issues in this qclk keeps what the batch has patched (R152). -/
def quayBoundary (n : Nat) (stop : Bool) (s : State) (q : Nat) : State :=
  if !s.enabled q then s
  else
    let ps := (s.quay q).patches n
    let s := seeBoundary q n (applyBatch q n (ageRecs q 1 (ageRecs q 0 s)))
    let s := s.setQuay q { s.quay q with patched := ps }
    let s := if s.overruns q n then overrun q n s else s
    if stop && (s.quay q).st = .run then stopQuay q s else s

/-- TIDE_VAR, its counters and its notification for the completed tide (R197, R216, R318); the next tide has met nothing. -/
def completeTide (s : State) : State :=
  let e := decide (s.tide.base.toNat < s.nextBnd.toNat)
  let v := s.tide.var.toNat ||| (2 * bit e)
  let s := (s.setTide { s.tide with var := 0 }).setReg (kChart 0x48) (w32 v)
  let s := if v = 0 then s else s.bump (kChart 0x50) 1
  let s := if bitAt v 1 then s.bump (kChart 0x58) 1 else s
  let s := if bitAt v 0 then s.bump (kChart 0x60) 1 else s
  if v &&& s.fieldAt 0x80 2 6 = 0 then s else s.note 161

/-- The phase that a boundary ends is learned from its event counts, and the tide counts for learning (R337). -/
def learnLast (c : Chart) (counts : List Nat) (s : State) : State :=
  let k := s.curPhase
  let since := s.tide.raised.toNat + ((c.phases.drop k).head?.map (·.start)).getD 0
  learnTide (learnPhase k (s.phasePower counts (s.now.toNat - since)) s)

/-- Energy that a tenant receives (R340). -/
def addEnergy (t n : Nat) (s : State) : State :=
  { s with power := { s.power with energy := tabPut s.power.energy t (tabGet s.power.energy t 0 + n) 0 } }

/-- The energy of the tide that ends (R340): each quay's own events go to its basin's tenant, and what else the module has spent,
but for parks and unparks, is shared among the enabled quays (entry 69). `counts`: the events of the last phase; `quays`: each
quay's events of the tide. -/
def tideEnergy (c : Chart) (counts : List Nat) (quays : List (List Nat)) (s : State) : State :=
  let ns := s.now.toNat - s.tide.raised.toNat
  let all := s.power.spent + s.eventEnergy counts + s.leakage * ns * 100 * 2 ^ 149 - s.power.siloSpent
  let own := fun (q : Nat) => s.eventEnergy ((quays.drop q).headD [])
  let rest := all - ((List.range 144).map own).sum
  let n := s.enabledCount
  let share := fun (b : Basin) => (b.quays.map own).sum + rest * b.quays.length / n
  let given := (c.basins.map share).sum
  let s := c.basins.foldl (fun s b => addEnergy b.tenant.toNat (share b) s) s
  { s with power := { s.power with spent := 0, siloSpent := 0, unattr := s.power.unattr + (all - given) } }

/-- A1 or A0 wanted takes effect (R322). -/
def powerAtBoundary (s : State) : State :=
  match s.power.a1Next with
  | some a1 =>
    let s := ({ s with power := { s.power with a1Next := none } }).setField (kAon 4) 24 3 0
    (s.setPwr (if a1 then .a1 else .a0)).note 165
  | none => s

/-- Pins set to STROBE_OUT pulse (R459). -/
def strobes (s : State) : State :=
  (List.range 8).foldl (fun s i =>
    let p := tabGet s.board.pins i (Pin.init i)
    if p.fn = 6 && p.next.isNone then s.emit (.strobeOut i) else s) s

/-- Boundary n of a chart is raised at the scheduled time `at'` (R187): the new tide begins, and every quay sees it. -/
def raiseBoundary (c : Chart) (n : Nat) (at' : W64) (held stop : Bool) (s : State) : State :=
  let s := s.setCnt64 (kChart 0x30) (w64 n)
  let base := at' + w64 (160 * c.period)
  let var : BitVec 6 := s.tide.var ||| BitVec.ofNat 6 (bit held + 8 * bit s.power.stretch)
  let t := s.tide
  let s := s.setTide { t with base := base, exts := t.exts.filter (fun e => decide (n < e.boundary.toNat)), var := var,
                              phase := 0, raised := s.now, heldSince := none, decided := false, applied := false, ended := stop }
  let s := s.setCnt64 (kChart 0x38) base
  let s := setPhase c 0 { s with time := { s.time with qclk := 0 } }
  let s := (List.range 144).foldl (quayBoundary n stop) s
  strobes (powerAtBoundary (serveBoundary n s))

/-- What stops the quays at boundary n: STOPPING, or a successor that waits for SWITCH_AT (R213, R214). -/
def State.stopsAt (s : State) (n : Nat) : Bool :=
  s.chartState = 5 || (s.stby = 2 && s.tide.succSub.any (fun x => decide (x.switchAt.toNat ≤ n)))

/-- The boundary that ends the running tide (R187): the tide's variance, energy, learning and the breakwater's choice, then
the new tide. Its event counts are free (entry 69). -/
def nextBoundary (c : Chart) (s : State) : State :=
  let n := s.tideIdx.toNat + 1
  let stop := s.stopsAt n
  let held := s.tide.heldSince.isSome
  let at' := s.nextBnd
  let ev := Config.tideCounts s.free
  let s := powerBoundary (learnLast c ev.phase (tideEnergy c ev.phase ev.quays (completeTide s.useFree)))
  let s := raiseBoundary c n at' held stop s
  if stop && s.stby = 2 && s.chartState = 4 then setStby 3 s else s

/-- A quay that would overrun boundary n lies in an ELASTIC basin and waits neither at a WTIDE NEXT nor for the boundary to
start (R182, R190, R195). -/
def State.elasticWaits (s : State) (c : Chart) (n : Nat) : Bool :=
  (List.range 144).any (fun q =>
    s.overruns q n && (s.quay q).hold != .tideNext && (s.quay q).hold != .atTide && (c.basinOf q).any (·.elastic))

/-- The boundary is due and must be held (R195, R196). -/
def State.mustHold (s : State) (c : Chart) : Bool :=
  !s.stillwater && c.elasticMax != 0 && s.elasticWaits c (s.tideIdx.toNat + 1)

/-- A hold begins at the boundary's scheduled time (R195, R445). -/
def beginHold (s : State) : State :=
  (s.setTide { s.tide with heldSince := some s.now }).trace 1 0 0xFFFF []

/-- ELASTIC_HOLD. -/
def execElasticHold (s : State) : Res :=
  .next (match s.tide.chart with
    | some c =>
      if s.chartRuns && s.tide.heldSince.isNone then
        let s := s.passTo s.nextBnd
        if s.mustHold c then beginHold s else s
      else s
    | none => s)

/-- The running tide ends (R187). A boundary that must be held is held first, to the end of ELASTIC_MAX at the longest
(R195). -/
def execTideBoundary (s : State) : Res :=
  .next (match s.tide.chart with
    | some c =>
      if !s.chartRuns then s
      else
        let s := s.passTo s.nextBnd
        let s := if s.tide.heldSince.isNone && s.mustHold c then beginHold s else s
        match s.tide.heldSince with
        | some t => nextBoundary c (if s.mustHold c then s.passTo (t + w64 (160 * c.elasticMax)) else s)
        | none => nextBoundary c s
    | none => s)

/-- A phase begins, START_k after the boundary as it was raised (R188): WTIDE PHASE releases, and the phase that ended is learned from its event counts (R337). -/
def execPhaseStart (counts : List Nat) (s : State) : Res :=
  .next (match s.tide.chart with
    | some c =>
      let k := s.curPhase + 1
      match (c.phases.drop k).head? with
      | some p =>
        if !s.chartRuns then s
        else
          let s := s.passTo (s.tide.raised + w64 p.start)
          let ns := p.start - ((c.phases.drop (k - 1)).head?.map (·.start)).getD 0
          let s := { s with power := { s.power with spent := s.power.spent + s.eventEnergy counts } }
          let s := planRaise (learnPhase (k - 1) (s.phasePower counts ns) s)
          let s := setPhase c k s
          (List.range 144).foldl (fun s q =>
            if (s.quay q).st = .run && (s.quay q).hold = .tidePhase k then s.issued q else s) s
      | none => s
    | none => s)

/-! ### Slack and extensions (R192 to R194) -/

/-- A notice for a boundary goes out on every logical link that is UP but one (R234). -/
def floodNotice (boundary : W64) (e : Nat) (but : Option Nat) (s : State) : State :=
  s.linksUp.foldl (fun s p => if but = some p then s else s.emit (.notice p boundary e (s.linkIdle p))) s

/-- Retries of a port that the slack window of a chart counts (R192). -/
def State.overSlack (s : State) (c : Chart) (p : Nat) : Nat := (s.port p).retries - c.slackRetry

/-- The lowest-numbered port with the largest overspend. -/
def State.worstPort (s : State) (c : Chart) : Nat :=
  (List.range 16).foldl (fun b p => if s.overSlack c b < s.overSlack c p then p else b) 0

/-- Every port starts a new slack window. -/
def clearRetries (s : State) : State :=
  (List.range 16).foldl (fun s p => s.setPort p { s.port p with retries := 0 }) s

/-- The slack window of the coming boundary closes: E is decided, and announced where it is above 0 (R192). -/
def decideExtension (c : Chart) (s : State) : State :=
  let p := s.worstPort c
  let raw := c.extStep * s.overSlack c p
  let e := min raw c.extMax
  let b := s.tideIdx + 1
  let s := clearRetries (s.setTide { s.tide with decided := true })
  if e = 0 then s
  else
    let x : Extension :=
      { boundary := b, e := e, remote := false, port := p, clamp := decide (c.extMax < raw) }
    floodNotice b e none (s.setTide { s.tide with exts := s.tide.exts ++ [x] })

/-- Time of the decision point of the coming boundary (R192). -/
def State.decideAt (s : State) (c : Chart) : W64 := s.tide.base - w64 (160 * c.decide)

/-- DECISION_POINT. Before boundary 0 it opens the first slack window. -/
def execDecisionPoint (s : State) : Res :=
  .next (match if s.stby = 4 && s.tide.loaded then s.tide.succ else s.tide.chart with
    | some c =>
      if s.chartState = 3 || s.stby = 4 then clearRetries (s.passTo (s.decideAt c))
      else if s.chartRuns && !s.tide.decided then decideExtension c (s.passTo (s.decideAt c))
      else s
    | none => s)

/-- An entry of the extension log, lost at a full FIFO (R216, R445). -/
def extLogPush (stamp boundary : W64) (e : Nat) (late clamp remote : Bool) (port : Nat) (s : State) : State :=
  let x : LogEntry :=
    { ts := stamp,
      w2 := w32 (2 ^ 31 + 2 ^ 30 * bit late + 2 ^ 29 * bit clamp + 2 ^ 28 * bit remote + 2 ^ 24 * port + e),
      w3 := lo32 boundary }
  if s.extLog.length < 16 then ({ s with extLog := s.extLog ++ [x] }).trace 1 0 0xFFFF (logWords x) else s

/-- The largest E held for a boundary; on equal E the module's own decision (R193). -/
def State.largestExt (s : State) (b : W64) : Option Extension :=
  (s.tide.exts.filter (fun e => e.boundary = b)).foldl
    (fun m e => match m with
      | none => some e
      | some x => if x.e < e.e || (x.e = e.e && x.remote && !e.remote) then some e else some x) none

/-- The apply point: the largest E is applied and logged with the stamp of the decision point (R193, R194). -/
def applyExtension (c : Chart) (s : State) : State :=
  let s := s.setTide { s.tide with applied := true }
  match s.largestExt (s.tideIdx + 1) with
  | none => s
  | some x =>
    let s := s.setCnt64 (kChart 0x38) (s.tide.base + w64 (160 * x.e))
    extLogPush (s.decideAt c) x.boundary x.e false x.clamp x.remote (if x.remote then 0 else x.port) s

/-- APPLY_POINT. -/
def execApplyPoint (s : State) : Res :=
  .next (match s.tide.chart with
    | some c => if s.chartRuns && !s.tide.applied then applyExtension c (s.passTo (s.tide.base - 160)) else s
    | none => s)

/-- EXT_LOG_POP (R216). -/
def execExtLogPop (s : State) : Res := .next { s with extLog := s.extLog.drop 1 }

/-- The arming point of the coming boundary (R174, R194): batches are fixed, gated quays are ungated (R321), rows not
written are late (R277). -/
def execArmingPoint (s : State) : Res :=
  .next (let waits := s.chartState = 3 || (s.stby = 4 && s.tide.loaded)
    if (s.chartRuns && s.tide.applied) || waits then
      let s := s.passTo (s.nextBnd - 64)
      let s := (List.range 144).foldl (fun s q => if s.enabled q then armQuay q s else s) s
      if waits then s else lateRows (s.tideIdx.toNat + 1) s
    else s)

/-! ### Start, stop, switch (R173, R212 to R214) -/

/-- A quay starts with its chart: IDLE with a program (R173), or stopped by the switch (R214). -/
def startQuay (isSwitch : Bool) (s : State) (q : Nat) : State :=
  let x := s.quay q
  if s.enabled q && s.fieldAt (qkey q 0x40) 31 1 = 1 && (x.st = .idle || (isSwitch && x.st = .stopped)) && s.logLen q != 0 then
    enterRun q (s.logStart q) false s
  else s

/-- Learning goes on where the new chart has the learned chart's CHART_ID, or names it as PARENT_ID; else it restarts
(R337). -/
def learnStart (c : Chart) (s : State) : State :=
  let old := s.power.learnedFor
  let s := { s with power := { s.power with learnedFor := c.id } }
  if c.id = old || c.parent = old then s else learnRestart s

/-- Boundary 0 of a chart (R187, R212, R214, R216). -/
def startChart (c : Chart) (sub : Submission) (s : State) : State :=
  let s := (s.setCnt64 (kChart 0x18) c.id).setCnt64 (kChart 0x20) 0
  let s := s.setField (kChart 4) 8 1 (bit sub.buf)
  let s := ((s.setCnt64 (kChart 0x50) 0).setCnt64 (kChart 0x58) 0).setCnt64 (kChart 0x60) 0
  let s := s.setReg (kChart 0x48) 0
  let s := s.setReg (kChart 0x40) (w32 (c.slackTime * 2 ^ 22 + (c.phases.length - 1) * 2 ^ 13 + c.period))
  let s := s.setTide { s.tide with chart := some c, succ := none, sub := some sub, succSub := none, exts := [],
                                   loaded := false, ended := false, late := none, var := 0 }
  let s := learnStart c (applyCap s)
  let last := s.tideIdx.toNat
  let s := s.setCnt64 (kChart 0x30) 0
  let s := if sub.isSwitch then serveSwitch last (setStby 0 s) else setChart 4 s
  let s := powerBoundary (setPhase c 0 { s with power := { s.power with spent := 0, siloSpent := 0 } })
  let s := (List.range 144).foldl (startQuay sub.follows) s
  (raiseBoundary c 0 sub.startAt false false s).trace 1 0 0xFFFF []

/-- TB_NOW reaches CHART_START (R212, R214): boundary 0 where loading is complete, else LATE. -/
def execChartStart (s : State) : Res :=
  .next (match s.pendingSub with
    | none => s
    | some sub =>
      let standby := sub.isSwitch && s.stby != 0 && s.stby != 5
      if !standby && !(1 ≤ s.chartState && s.chartState ≤ 3 && !sub.isSwitch) then s
      else
        let s := s.passTo sub.startAt
        match if standby then s.tide.succ else s.tide.chart with
        | some c => if s.tide.loaded then startChart c sub s else chartRefuse 0xB5 s
        | none => chartRefuse 0xB5 s)

/-- The last quay has stopped for a switch: the successor loads (R214). -/
def execSwitchDrainDone (s : State) : Res :=
  .next (match s.tide.succ, s.tide.succSub with
    | some c, some sub =>
      if s.stby = 3 && s.allStopped then loadBegin c (s.imageIn sub.buf) true (setStby 4 s) else s
    | _, _ => s)

/-- Every quay has stopped after CHART_STOP (R213). -/
def execChartStopDone (s : State) : Res :=
  .next (if s.chartState = 5 && s.tide.ended && s.allStopped then chartEnd 0 0 s else s)

end Sys2Proof.Machine
end

