-- ==== Sys2Proof/Machine/Ports.lean ====
section
/-! DEFINITION. Fider ports: training, lashing, drops and recovery, flits with their acknowledgements and credits, and
low-power idle (spec/09_fider_links.md; R243 to R245, R248, R261, R316, R324). -/

namespace Sys2Proof.Machine

/-- The state of a port, with PORT_STATUS.STATE computed from it (R221, R237). -/
def portCode : PState → Nat
  | .off => 0
  | .detect => 1
  | .seed => 2
  | .eq => 3
  | .align => 4
  | .up => 5
  | .recovery => 6
  | .degraded => 7

/-- A PORT_EVT bit is set, with its notification (R236, R425): 0 DOWN, 1 TRAIN_FAIL, 2 DEGRADED, 3 SKEW, 4 CFG_REJ. -/
def portEvent (p b : Nat) (s : State) : State := (s.orReg (pkey p 8) (2 ^ b)).note (144 + p)

/-- One of the five counters of a port advances: 0 FEC_CORR, 1 FEC_UNCORR, 2 RETRY_RX, 3 RETRY_TX, 4 DOWN_CNT (R237). -/
def portCount (p i n : Nat) (s : State) : State := s.count (pkey p 0x40) (pkey p (0x10 + 8 * i)) n

/-- A port enters a state in training. -/
def portTo (p : Nat) (st : PState) (s : State) : State := s.setPort p { s.port p with st := st }

/-! ### Queues (R244, R261) -/

/-- The packet that a port sends next: the harbourmaster lane first, then the data VCs in turn after the one served last; each
VC in order, as far as it holds credit (R244 to R246). -/
def Port.nextOut (x : Port) (e2e : Bool) : Option Packet :=
  let v := x.lastVc.toNat
  [4, (v + 1) % 4, (v + 2) % 4, (v + 3) % 4, v].findSome? (fun c =>
    (x.egress.find? (fun k => k.vc.toNat = c)).filter (fun k => x.mayStart e2e k))

/-- Packets of an egress queue leave as far as the port is UP and credit allows, at most n. -/
def drainList (p : Nat) : Nat → State → State
  | 0, s => s
  | n + 1, s =>
    let x := s.port p
    match (if x.st = .up then x.nextOut s.e2eMode else none) with
    | some k => drainList p n (transmit p k (s.setPort p { x with egress := x.egress.erase k }))
    | none => s

/-- The egress queue of a port is tried (R246). -/
def drainEgress (p : Nat) (s : State) : State := drainList p (s.port p).egress.length s

/-- A packet held by a port that will not return to UP goes by the detour of its route, or is dropped with PORT_DOWN
(R250, R261). -/
def rehome (p : Nat) (k : Packet) (s : State) : State :=
  let r := s.route k.routingEid
  let d := if r.kind = 1 then r.detour.filter (fun d => s.linkUp d && !(r.waypoint.isSome && k.nrh = 3)) else none
  match d with
  | some d =>
    let k := match r.waypoint with
      | some e => k.pushed e
      | none => k
    portSend d k.withTrailer.sealed s
  | none => dropPacket (atPort p) 0x4C k s

/-- Retry buffer and egress queues of a port are emptied (R261 item 1). -/
def flushPort (p : Nat) (s : State) : State :=
  let x := s.port p
  (x.retry.map (·.2) ++ x.egress).foldl (fun s k => rehome p k s) (s.setPort p { x with retry := [], egress := [] })

/-! ### Leaving and entering UP (R223, R244, R261, R316) -/

/-- A port leaves UP: the part of a packet it has received is discarded and counted, its link latency is no longer fixed, and
it runs at x4 no more (R237, R260, R316). -/
def leaveUp (p : Nat) (st : PState) (s : State) : State :=
  let x := s.port p
  let s := if x.rxPart.isEmpty then s else s.fabCount 1
  let s := s.setPort p { x with st := st, attempts := 0, rxPart := [], discarding := false, badSeen := [] }
  (s.setField 0x1C00044 (16 + p) 1 0).setField (pkey p 4) 4 2 0

/-- A drop by R223. -/
def dropUp (p : Nat) (s : State) : State := portCount p 4 1 (portEvent p 0 (leaveUp p .recovery s))

/-- Credits of a port that enters UP: 64 KiB for each data VC, 8 KiB for the harbourmaster lane, in units of 256 B (R244). -/
def fullCredits : Tab Nat := [(0, 256), (1, 256), (2, 256), (3, 256), (4, 32)]

/-- The flits of the retry buffer go out again from ACKSEQ + 1 on, with RETRY set and the acknowledgement of this moment
(R245, R261). -/
def replay (p : Nat) (s : State) : State :=
  let x := s.port p
  portCount p 3 x.flits.length (x.flits.foldl (fun s f => s.emit (.flit p (f.bytes x.rxSeq false true []))) s)

/-- A port enters UP: full credits, the retry buffer replayed, then what waits. -/
def enterUp (p : Nat) (s : State) : State :=
  let x := s.port p
  let s := s.setPort p { x with st := .up, attempts := 0, credits := fullCredits, owed := [], upAt := s.now, trained := none }
  let s := if x.flits.isEmpty then s else replay p s
  drainEgress p s

/-- A port leaves for OFF or DETECT without returning to UP: what it holds is re-sent or dropped, and a later training
starts its flits anew (entry 15). -/
def portAway (p : Nat) (st : PState) (s : State) : State :=
  let x := s.port p
  let s := if x.st = .up then leaveUp p st s else portTo p st s
  let x := s.port p
  let s := s.setPort p { x with attempts := 0, failed := false, txSeq := 0, rxSeq := 4095, acked := 4095,
                                 txBuf := [], txMarks := [], flits := [], owed := [], ackDue := false, nakDue := false,
                                 trained := none }
  flushPort p s

/-! ### PORT_CTRL (R221 to R225, R237) -/

/-- A size of a lashed group would run past the edge's fourth port (R225). -/
def lashBad (p size : Nat) : Bool := decide (4 < p % 4 + size + 1)

/-- A lashed group may be formed or dissolved: every port of the old and the new group is OFF and none leads another or
belongs to another (R225). -/
def State.lashOk (s : State) (p size : Nat) : Bool :=
  let span := (List.range (max size (s.fieldAt (pkey p 0) 4 2) + 1)).map (fun i => (p + i) % 16)
  span.all (fun m => (s.port m).st = .off && (m = p || s.fieldAt (pkey m 0) 4 2 = 0)) &&
  (List.range 16).all (fun l => l = p || s.fieldAt (pkey l 0) 4 2 = 0 || span.all (fun m => !(s.members l).contains m))

/-- LASH written (R225): outside the time for it nothing is stored and CFG_REJ is set, also where the value is the stored one. -/
def lashStore (rq : Req) (p size : Nat) (s : State) : State :=
  if lashBad p size then s.regRsvd rq (pkey p 0)
  else if s.lashOk p size then s.setField (pkey p 0) 4 2 size
  else portEvent p 4 s

/-- EN written: training starts from OFF, or the port goes to OFF (R221). A retired port stays OFF (R354). -/
def enStore (p en : Nat) (s : State) : State :=
  if en = 1 && s.portDead p then s
  else
    let s := s.setField (pkey p 0) 0 1 en
    let st := (s.port p).st
    if en = 1 then (if st = .off then portTo p .detect s else s)
    else if st = .off then s else portAway p .off s

/-- RESEED: the port trains again from the seeds (R222). -/
def reseedPort (p : Nat) (s : State) : State :=
  let s := s.setPort p { s.port p with fromSeeds := true }
  if (s.port p).st = .off then s else portAway p .detect s

/-- A write of PORT_CTRL is a LASH write where it changes the field, or writes nothing else: a whole word that leaves LASH as it
is, to set EN or RETRAIN, is none (entry 78). -/
def lashWritten (old : W32) (f : W32 × W32) : Bool :=
  touches f 4 2 && (getBits (mergeBits old f) 4 2 != getBits old 4 2 || (f.2 &&& 0xFFFFFFCF) = 0)

/-- A write of PORT_CTRL. -/
def portCtrlStore (rq : Req) (p : Nat) (f : W32 × W32) (s : State) : State :=
  let v := mergeBits (s.reg (pkey p 0)) f
  let s := if lashWritten (s.reg (pkey p 0)) f then lashStore rq p (getBits v 4 2) s else s
  let s := s.setField (pkey p 0) 1 1 (getBits v 1 1)
  let s := if touches f 0 1 then enStore p (getBits v 0 1) s else s
  let s := if cmdBit f 3 then reseedPort p s else s
  if cmdBit f 2 && (s.port p).st = .up then dropUp p s else s

/-- A write of EN. -/
def execPortEnWrite (p : Nat) (en : Bool) (s : State) : Res := .next (portCtrlStore .host p (w32 (bit en), 1) s)
/-- RESEED. -/
def execReseed (p : Nat) (s : State) : Res := .next (portCtrlStore .host p (8, 8) s)
/-- RETRAIN. -/
def execRetrain (p : Nat) (s : State) : Res := .next (portCtrlStore .host p (4, 4) s)
/-- A write of LASH. -/
def execLashWrite (p : Nat) (size : BitVec 2) (s : State) : Res :=
  .next (portCtrlStore .host p (w32 (16 * size.toNat), 0x30) s)
/-- PORT_CNT_CTRL.CLR (R237). -/
def execPortCntClr (p : Nat) (s : State) : Res := .next (s.clear64 (pkey p 0x10) 0x28)

/-! ### Training (R220 to R222, R225) -/

/-- A port is in a state and no TRAIN_FAIL waits. -/
def State.training (s : State) (p : Nat) (st : PState) : Bool := (s.port p).st = st && !(s.port p).failed

/-- A partner is seen on at least 4 lanes. -/
def execPartnerDetect (p : Nat) (lanes : BitVec 8) (s : State) : Res :=
  .next (if s.training p .detect && 4 ≤ ((List.range 8).filter (fun i => lanes.getLsbD i)).length then portTo p .seed s else s)

/-- The seed of a lane: of the calibration set, or the default preset where the seeds have failed their check (R222, R344,
R345). -/
def State.seedOf (s : State) (p i : Nat) : W32 :=
  if s.calBad 3 then Config.defaultPreset i &&& 0xFFFFFFF
  else w32 (fld (s.calHalf (768 + 32 * p + 4 * i) + 2 ^ 16 * s.calHalf (770 + 32 * p + 4 * i)) 0 28)

/-- The start values of a training: the seeds, or the learned values that EQ_LANEi holds (R222). -/
def startValues (p : Nat) (s : State) : State :=
  let x := s.port p
  let v := (List.range 8).map (fun i => if x.fromSeeds then s.seedOf p i else s.reg (pkey p (0x100 + 4 * i)))
  s.setPort p { x with startEq := v }

/-- The start values are loaded. -/
def execSeedDone (p : Nat) (s : State) : Res :=
  .next (if s.training p .seed then portTo p .eq (startValues p s) else s)

/-- Equalisation has converged on the values learned per lane, which EQ_LANEi holds (R222). -/
def execEqConverged (p : Nat) (learned : List W32) (s : State) : Res :=
  .next (if s.training p .eq then
      let s := (List.range 8).foldl (fun s i =>
        s.setReg (pkey p (0x100 + 4 * i)) (w32 (getBits ((learned.drop i).headD 0) 0 28))) s
      s.setPort p { s.port p with st := .align, fromSeeds := false }
    else s)

/-- A port is of a lashed group. -/
def State.lashed (s : State) (p : Nat) : Bool := s.fieldAt (pkey p 0) 4 2 != 0 || !s.leads p

/-- ALIGN has ended: x8, x4 or DEGRADED, with what was found (R217, R220, R225, R237). -/
def aligned (p : Nat) (r : Trained) (s : State) : State :=
  let all := r.lanes = 0xFF
  let lo := fld r.lanes.toNat 0 4 = 15
  let hi := fld r.lanes.toNat 4 4 = 15
  let x4 := !all && (lo || hi) && s.fieldAt (pkey p 0) 1 1 = 1 && !s.lashed p
  let s := (s.setField (pkey p 4) 16 8 r.pol.toNat).setField (pkey p 4) 4 3 (bit x4 + 2 * bit (x4 && !lo) + 4 * bit r.reversed)
  let s := if all then s else portEvent p 2 s
  if !(all || x4) then portTo p .degraded s
  else if s.lashed p && decide (16 < r.skew) then portTo p .degraded (portEvent p 3 s)
  else enterUp p s

/-- The group that a port is of: its leader's members, or the port alone (R225). -/
def State.portGroup (s : State) (p : Nat) : List Nat :=
  match (List.range 16).find? (fun l => s.leads l && (s.members l).contains p) with
  | some l => s.members l
  | none => [p]

/-- A port still trains: it is in SEED, EQ or ALIGN, and its ALIGN has not ended. -/
def State.stillTrains (s : State) (p : Nat) : Bool :=
  (s.training p .seed || s.training p .eq || s.training p .align) && (s.port p).trained.isNone

/-- The members of a group that train together enter UP together: once none of them still trains, each whose ALIGN has ended
takes what it found (R225). -/
def groupAligned (p : Nat) (s : State) : State :=
  let ms := s.portGroup p
  if ms.any s.stillTrains then s
  else ms.foldl (fun s m =>
    match (s.port m).trained with
    | some r => aligned m r (s.setPort m { s.port m with trained := none })
    | none => s) s

/-- ALIGN_DONE: a port alone, or the last of the members that train together. -/
def execAlignDone (p : Nat) (r : Trained) (s : State) : Res :=
  .next (if s.training p .align then groupAligned p (s.setPort p { s.port p with trained := some r }) else s)

/-- A state other than RECOVERY exceeds its time: TRAIN_FAIL, and DETECT 1 ms later (R221); the rest of its group goes on without
it. -/
def execTrainStateTimeout (p : Nat) (s : State) : Res :=
  .next (if s.training p .seed || s.training p .eq || s.training p .align then
      groupAligned p (portEvent p 1 (s.setPort p { s.port p with failed := true, trained := none }))
    else s)

/-- The 1 ms after a TRAIN_FAIL have passed: DETECT, from the seeds (R221, R222). -/
def execDetectRetry (p : Nat) (s : State) : Res :=
  .next (if (s.port p).failed then s.setPort p { s.port p with st := .detect, failed := false, fromSeeds := true } else s)

/-- A RECOVERY attempt has taken 120 µs: the next, or after the third TRAIN_FAIL and DETECT from the seeds (R221, R223). -/
def execRecoveryAttemptFail (p : Nat) (s : State) : Res :=
  .next (let x := s.port p
    if x.st != .recovery then s
    else if x.attempts < 2 then s.setPort p { x with attempts := x.attempts + 1 }
    else portAway p .detect (portEvent p 1 (s.setPort p { x with fromSeeds := true })))

/-- RECOVERY succeeds (R221, R261). A port that ends DEGRADED does not return to UP. -/
def execRecoveryDone (p : Nat) (r : Trained) (s : State) : Res :=
  .next (if (s.port p).st = .recovery then
      let s := aligned p r (startValues p s)
      if (s.port p).st = .degraded then flushPort p s else s
    else s)

/-- A port in UP drops (R223). -/
def execLinkDrop (p : Nat) (_why : DropCause) (s : State) : Res := .next (if (s.port p).st = .up then dropUp p s else s)

/-! ### Flits (R243 to R245, R259) -/

/-- Packets framed from consecutive bytes, each as long as its TLEN, and the bytes of one that goes on (R243). Bytes that
begin no packet of at least a base header are padding (entry 15). -/
def frame : Nat → List Byte → List (List Byte) × List Byte
  | 0, bs => ([], bs)
  | n + 1, bs =>
    if bs.length < 10 then ([], bs)
    else
      let len := leAt bs 8 2
      if len < 32 then ([], [])
      else if bs.length < len then ([], bs)
      else
        let r := frame n (bs.drop len)
        (bs.take len :: r.1, r.2)

/-- Packet bytes of a flit: those before START end the packet in progress, those from START on begin new ones. -/
def frameFlit (part bs : List Byte) (start : Nat) : List (List Byte) × List Byte :=
  if start < 242 then
    let r := frame 8 (bs.drop start)
    ((if part.isEmpty then [] else [part ++ bs.take start]) ++ r.1, r.2)
  else if part.isEmpty then ([], [])
  else
    let r := frame 1 (part ++ bs)
    if r.1.isEmpty then r else (r.1, [])

/-- A flit is not covered by ACKSEQ: at most 2,048 are sent ahead of it (R245). -/
def ahead (ack seq : BitVec 12) : Bool := decide (2048 ≤ (ack - seq).toNat)

/-- Flits up to ACKSEQ are acknowledged: they leave the retry buffer, and so do the packets whose last flit they cover (R245). -/
def ackFlits (p : Nat) (ack : BitVec 12) (s : State) : State :=
  let x := s.port p
  s.setPort p { x with acked := ack, flits := x.flits.filter (fun f => ahead ack f.seq),
                       retry := x.retry.filter (fun r => ahead ack r.1) }

/-- Credits come back for a VC; 7 names none (R243). -/
def addCredit (p vc n : Nat) (s : State) : State :=
  if vc ≤ 4 then
    let x := s.port p
    s.setPort p { x with credits := tabSet x.credits vc (x.credit vc + n) }
  else s

/-- A flit that passed FCRC: acknowledgement, NAK, credits, packet bytes. -/
def goodFlit (p : Nat) (flit : List Byte) (s : State) : State :=
  let c := leAt flit 242 14
  let s := ackFlits p (BitVec.ofNat 12 (fld c 12 12)) s
  let s := if bitAt c 24 then replay p s else s
  let s := drainEgress p (addCredit p (fld c 47 3) (fld c 50 8) (addCredit p (fld c 36 3) (fld c 39 8) s))
  let x := s.port p
  let s := if bitAt c 25 then portCount p 2 1 (s.setPort p { x with retries := x.retries + 1 }) else s
  let x := s.port p
  let r := if bitAt c 27 then ([], x.rxPart) else frameFlit x.rxPart (flit.take 242) (fld c 28 8)
  s.setPort p { x with rxSeq := BitVec.ofNat 12 (fld c 0 12), discarding := false, rxPkts := x.rxPkts ++ r.1, rxPart := r.2,
                       ackDue := x.ackDue || (!s.e2eMode && !bitAt c 27) }

/-- A flit is not accepted: under the service regime it and its followers are discarded until a retransmission, and the next
flit carries NAK with the last good ACKSEQ; in the end-to-end regime it is discarded with every packet it carries part of (R245,
R259). -/
def badFlit (p : Nat) (s : State) : State :=
  let x := s.port p
  if s.e2eMode then s.setPort p { x with rxPart := [] }
  else sendFlit p (s.setPort p { x with discarding := true, nakDue := true })

/-- A flit arrives at a port in UP. Sync frames are commands of their own (R234). -/
def flitIn (p : Nat) (flit : List Byte) (s : State) : State :=
  let x := s.port p
  let c := leAt flit 242 14
  if fld c 80 32 != (crc32c (flit.take 252)).toNat then badFlit p s
  else if bitAt c 26 then s
  else if s.e2eMode then goodFlit p flit s
  else if x.discarding && !bitAt c 25 then s
  else if BitVec.ofNat 12 (fld c 0 12) != x.rxSeq + 1 then s
  else goodFlit p flit s

/-- Uncorrectable codewords of the last 10 µs, with n more now (R223). -/
def seeBad (p n : Nat) (s : State) : State :=
  if n = 0 then s
  else
    let x := s.port p
    s.setPort p { x with badSeen := x.badSeen.filter (fun b => decide (s.now.toNat < b.1.toNat + 10000)) ++ [(s.now, n)] }

/-- More than 64 uncorrectable codewords have arrived within 10 µs (R223). -/
def Port.tooBad (x : Port) : Bool := decide (64 < (x.badSeen.map (·.2)).sum)

/-- FLIT_RX, with the codewords that FEC corrected and could not correct: the codewords are counted, a burst of uncorrectable
ones drops the port (R223), and else the flit is taken. In low-power idle no flit carries packet bytes (R324). -/
def execFlitRx (p : Nat) (flit : List Byte) (corrected uncorrectable : Nat) (s : State) : Res :=
  .next (if (s.port p).st = .up then
      let s := seeBad p uncorrectable (portCount p 1 uncorrectable (portCount p 0 corrected s))
      if (s.port p).tooBad then dropUp p s
      else if (s.port p).lpi then s
      else flitIn p flit s
    else s)

/-! ### Low-power idle (R248, R324) -/

/-- A sync frame arrives from the partner: its LPI flag is shown, and a waiting WAKE frame goes out in the partner's burst,
whose packets are then acknowledged (R248, R324). -/
def execLpiBeaconRx (p : Nat) (lpi : Bool) (s : State) : Res :=
  .next (let x := s.port p
    if x.st != .up then s
    else
      let s := s.setField (pkey p 4) 12 1 (bit lpi)
      if lpi && !x.wakeDue.isEmpty then
        let s := (s.setPort p { s.port p with wakeDue := [] }).emit (.wakeFrame p x.lpi)
        x.wakeDue.foldl (fun s w => gatherAck w.1 w.2.1 w.2.2 (atPort p) s) s
      else s)

/-- A WAKE frame reaches a port in low-power idle: wake source 5 (R248, R326). -/
def execWakeFrameRx (p : Nat) (s : State) : Res :=
  .next (if (s.port p).st = .up && (s.port p).lpi then s.wake 5 else s)

end Sys2Proof.Machine
end

