-- ==== Sys2Proof/Machine/TimeBase.lean ====
section
/-! DEFINITION. The time base: roles, loads, synchronisation exchanges, holdover, extension notices and the bursts of
low-power idle (R192, R193, R229 to R235, R238, R324). -/

namespace Sys2Proof.Machine

/-- A register of the time base and trace block. -/
def kTb (o : Nat) : Nat := 0x1C00000 + o

/-- TB_CTRL.ROLE: 0 FREE, 1 ROOT, 2 FOLLOWER. -/
def State.tbRole (s : State) : Nat := s.fieldAt (kTb 8) 0 2
/-- TB_STATUS.STATE: 0 FREE, 1 ACQUIRE, 2 LOCKED, 3 HOLDOVER, 4 UNLOCKED. -/
def State.tbState (s : State) : Nat := s.fieldAt (kTb 0xC) 0 3
/-- TB_STATUS.STATE changes. -/
def tbTo (st : Nat) (s : State) : State := s.setField (kTb 0xC) 0 3 st
/-- A TB_STATUS event bit is set: 4 UNLOCK_EVT, 5 STEP_EVT, 6 LOAD_REJ, 7 NOT_READY (R238, R425). -/
def tbEvent (b : Nat) (s : State) : State := (s.orReg (kTb 0xC) (2 ^ b)).note 166

/-- UNLOCKED, with TB_UNLOCK logged (R232, R233). -/
def unlock (s : State) : State := tbEvent 4 (tbTo 4 { s with time := { s.time with good := 0, slew := 0 } })

/-- A follower enters ACQUIRE (R232, R328). -/
def acquire (s : State) : State :=
  tbTo 1 { s with time := { s.time with good := 0, void := 0, slew := 0, t1 := none, holdSince := none } }

/-- The exit from S2 or S3: a follower acquires anew, a ROOT reads LOCKED and a FREE module FREE (R232, R238, R328). -/
def timeBack (s : State) : State :=
  if s.tbRole = 2 then acquire s else tbTo (if s.tbRole = 1 then 2 else 0) s

/-- ROLE is written (R230, R232): a ROOT reads LOCKED; FOLLOWER enters ACQUIRE on its UPLINK. -/
def roleStore (role : Nat) (s : State) : State :=
  let s := (s.setField (kTb 8) 0 2 role).setField (kTb 0xC) 3 1 0
  if role = 2 then acquire s
  else tbTo (if role = 1 then 2 else 0) { s with time := { s.time with slew := 0, t1 := none, holdSince := none } }

/-- LOAD: a ROOT without LOAD_ON_SYNC takes TB_LOAD at once; a FOLLOWER refuses (R230). -/
def loadNow (s : State) : State :=
  if s.tbRole = 2 then tbEvent 6 s
  else if s.tbRole = 1 && s.fieldAt (kTb 8) 2 1 = 0 then s.moveNow (s.pair (kTb 0x10))
  else s

/-- Values of PULSE_LOG2 that are no reserved encoding (R238). -/
def pulseOk (v : Nat) : Bool := v = 0 || (10 ≤ v && v ≤ 30)

/-- A write of TB_CTRL (R9, R230, R238). -/
def tbCtrlStore (rq : Req) (f : W32 × W32) (s : State) : State :=
  let v := mergeBits (s.reg (kTb 8)) f
  let s := s.setField (kTb 8) 2 1 (getBits v 2 1)
  let s := s.setField (kTb 8) 4 9 (getBits v 4 9)
  let s := if pulseOk (getBits v 13 5) then s.setField (kTb 8) 13 5 (getBits v 13 5) else s.regRsvd rq (kTb 8)
  let s :=
    if !touches f 0 2 then s
    else if getBits v 0 2 = 3 then s.regRsvd rq (kTb 8)
    else roleStore (getBits v 0 2) s
  if cmdBit f 3 then loadNow s else s

/-- LOAD. -/
def execTbLoad (s : State) : Res := .next (tbCtrlStore .host (8, 8) s)
/-- A write of ROLE. -/
def execTbRoleWrite (role : BitVec 2) (s : State) : Res := .next (tbCtrlStore .host (w32 role.toNat, 3) s)

/-- A rising edge of sync-in is sampled: a ROOT with LOAD_ON_SYNC loads 32 tclk later (R230, R456). -/
def execSyncInEdge (s : State) : Res :=
  .next (if s.tbRole = 1 && s.fieldAt (kTb 8) 2 1 = 1 then { s with time := { s.time with loadAt := some (s.now + 32) } } else s)

/-- A ROOT reaches the next multiple of 2^PULSE_LOG2: sync-out goes high for 100 ns (R230). -/
def execSyncOutPulse (s : State) : Res :=
  .next (let n := s.fieldAt (kTb 8) 13 5
    if s.tbRole = 1 && n != 0 then
      (s.passTo (w64 ((s.now.toNat / 2 ^ n + 1) * 2 ^ n))).emit .syncOut
    else s)

/-! ### Exchanges (R231 to R233) -/

/-- The uplink in use: UPLINK, or ALT_UPLINK. -/
def State.uplink (s : State) : Nat := s.fieldAt (kTb 8) (if s.fieldAt (kTb 0xC) 3 1 = 1 then 9 else 4) 4

/-- This tclk in 1/16 ns. A slew has moved the tclk itself, so TB_NOW carries it (R232, entry 22). -/
def State.fineNow (s : State) : Int := 16 * (s.now.toNat : Int)

/-- TB_ASYM of a port, in 1/16 ns: applied to each stamp that the port takes (R231, entry 22). -/
def State.asym (s : State) (p : Nat) : Int := sext (s.fieldAt (pkey p 0x50) 0 16) 16

/-- An exchange is void or missing; the fourth in a row loses the uplink: the alternate one, or HOLDOVER (R233). -/
def voidExchange (s : State) : State :=
  let n := s.time.void + 1
  let s := { s with time := { s.time with void := n, good := 0, t1 := none } }
  if n != 4 then s
  else
    let s := s.note 166
    let alt := s.fieldAt (kTb 8) 9 4
    if s.fieldAt (kTb 0xC) 3 1 = 0 && s.fieldAt (kTb 8) 8 1 = 1 && s.linkUp alt then
      { s.setField (kTb 0xC) 3 1 1 with time := { s.time with void := 0 } }
    else if s.tbState = 3 then s
    else tbTo 3 { s with time := { s.time with holdSince := some s.now } }

/-- A follower's exchange begins: SYNC_REQ leaves by the lowest member of the uplink that is UP, and its departure is
stamped to 1/16 ns (R231). An exchange still without an answer is missing (R233). -/
def execSyncExchange (frac : Nat) (s : State) : Res :=
  .next (if s.tbRole != 2 then s
    else
      let s := if s.time.t1.isSome then voidExchange s else s
      match s.upMembers s.uplink with
      | p :: _ =>
        let t1 := s.fineNow + (frac % 16 : Nat) + s.asym p
        { s.emit (.syncReq p t1 (s.port p).lpi) with time := { s.time with t1 := some t1 } }
      | [] => { s with time := { s.time with t1 := some s.fineNow } })

/-- A parent answers SYNC_REQ, or NOT_READY where it is neither ROOT nor LOCKED (R231). The sixteenths of the arrival and
the time to the next flit boundary are free (entry 3). -/
def execSyncReqRx (p : Nat) (s : State) : Res :=
  .next (if (s.port p).st != .up then s
    else
      let f := s.free
      let t2 := s.fineNow + (Config.freeCount f % 16 : Nat) + s.asym p
      let t3 := t2 + (Config.freeCount (f + 1) : Nat)
      (s.emit (.syncRsp p t2 t3 (s.tbRole != 1 && s.tbState != 2) (s.port p).lpi)).useFree.useFree)

/-- A chart in RUNNING, ARMED or STOPPING (R232). -/
def State.chartHolds (s : State) : Bool := s.chartState = 3 || s.chartState = 4 || s.chartState = 5

/-- TB_NOW steps by an offset in 1/16 ns, rounded to 1 ns, and the phase takes the remainder (R232). -/
def stepTime (o : Int) (s : State) : State :=
  let n := (o + 8) / 16
  let s := s.moveNow (w64 (wrap ((s.now.toNat : Int) + n) 64))
  let s := { s with time := { s.time with phase := s.time.phase + (o - 16 * n), slew := 0 } }
  (tbEvent 5 s).endAlign

/-- What a valid exchange does to the time (R232, R233): the first one since HOLDOVER began returns the follower to LOCKED, also
after 1 s has made it UNLOCKED. -/
def correct (o : Int) (s : State) : State :=
  let held := s.time.holdSince.isSome
  let s := { s with time := { s.time with holdSince := none } }
  if s.tbState = 1 && !s.chartHolds then stepTime o s
  else if o.natAbs ≤ 128 then
    let s := { s with time := { s.time with slew := o } }
    if held then tbTo 2 s else s
  else unlock s

/-- A valid exchange: offset and delay are shown, the time is corrected, and eight in a row within 1 ns lock (R231,
R232). Halves of 1/16 ns are dropped downward (entry 22). -/
def exchanged (t1 t2 t3 t4 : Int) (s : State) : State :=
  let d := ((t4 - t1) - (t3 - t2)) / 2
  let o := ((t2 - t1) - (t4 - t3)) / 2
  let s := (s.setReg (kTb 0x18) (w32 (wrap o 32))).setReg (kTb 0x1C) (w32 (wrap d 32))
  let good := if o.natAbs ≤ 16 then s.time.good + 1 else 0
  let s := correct o { s with time := { s.time with good := good, void := 0, t1 := none } }
  if 8 ≤ good && (s.tbState = 1 || s.tbState = 4) then tbTo 2 s else s

/-- SYNC_RSP arrives at a follower, on its uplink, for the exchange in progress; t4 is the arrival before TB_ASYM is applied. -/
def execSyncRspRx (p : Nat) (notReady : Bool) (t2 t3 t4 : Int) (s : State) : Res :=
  .next (match s.time.t1 with
    | none => s
    | some t1 =>
      if s.tbRole != 2 || (s.upMembers s.uplink).head? != some p then s
      else if notReady then voidExchange (tbEvent 7 s)
      else exchanged t1 t2 t3 (t4 + s.asym p) s)

/-- 1 s in HOLDOVER: UNLOCKED (R233). -/
def execHoldoverTimeout (s : State) : Res :=
  .next (match s.time.holdSince with
    | some t => if s.tbState = 3 then unlock (s.passTo (t + 1000000000)) else s
    | none => s)

/-! ### Notices and bursts -/

/-- A notice whose apply point has passed: logged LATE, EXT_LATE set, neither applied nor forwarded (R193). -/
def lateNotice (boundary : W64) (e : Nat) (stamp : W64) (clamp : Bool) (s : State) : State :=
  ((extLogPush stamp boundary e true clamp true 0 s).orReg (kChart 4) 0x2000).note 160

/-- A notice's apply point has passed: of a boundary that a running chart has raised, or whose extension is fixed (R193). -/
def State.noticeLate (s : State) (boundary : W64) : Bool :=
  s.chartRuns && (decide (boundary.toNat ≤ s.tideIdx.toNat) || (boundary = s.tideIdx + 1 && s.tide.applied))

/-- An extension notice arrives: held and passed on where it is the largest for its boundary, chart or none (R193, R234). -/
def execExtensionNoticeRx (p : Nat) (boundary : W64) (e : Nat) (stamp : W64) (clamp : Bool) (s : State) : Res :=
  .next (if (s.port p).st != .up then s
    else if s.noticeLate boundary then lateNotice boundary e stamp clamp s
    else
      let more := decide ((s.largestExt boundary).all (fun x => decide (x.e < e)))
      let x : Extension := { boundary := boundary, e := e, remote := true, port := p, clamp := clamp }
      let s := s.setTide { s.tide with exts := s.tide.exts ++ [x] }
      if more then floodNotice boundary e ((List.range 16).find? (fun l => s.leads l && (s.members l).contains p)) s else s)

/-- A port in low-power idle opens for a burst: its SYNC_REQ where the link is its uplink, else a beacon (R324). -/
def execLpiBurst (p : Nat) (s : State) : Res :=
  .next (if (s.port p).st = .up && (s.port p).lpi then
      if s.tbRole = 2 && (s.upMembers s.uplink).head? = some p then
        let s := if s.time.t1.isSome then voidExchange s else s
        let t1 := s.fineNow + s.asym p
        { s.emit (.syncReq p t1 (s.port p).lpi) with time := { s.time with t1 := some t1 } }
      else s.emit (.beacon p true)
    else s)

end Sys2Proof.Machine
end

