-- ==== Sys2Proof/Machine/Serving.lean ====
section
/-! DEFINITION. The pilot mailbox: rings, the taking of command entries and the commands (R278 to R286, R294 to R300, R341,
R361). -/

namespace Sys2Proof.Machine

/-! ### Rings and control (R278, R286) -/

/-- SQx_HEAD is at 0x14 or 0x1C; SQx_TAIL 4 below. -/
def sqHead (ring : Nat) : Nat := 0x14 + 8 * ring
/-- Entries of a submission ring. -/
def sqSize (ring : Nat) : Nat := if ring = 0 then 1024 else 64
/-- BAR0 offset of a submission ring. -/
def sqBase (ring : Nat) : Nat := if ring = 0 then 0x1810000 else 0x1820000

/-- Entries that the tail covers and that are not taken. -/
def State.sqWaiting (s : State) (ring : Nat) : Nat :=
  (s.ringCount (sqHead ring - 4) + 65536 - s.ringCount (sqHead ring)) % 65536

/-- SQx_TAIL written: ignored with SQ_ERR where it would overfill the ring (R278). -/
def sqTailStore (ring : Nat) (f : W32 × W32) (s : State) : State :=
  let v := getBits (mergeBits (s.reg (kMb (sqHead ring - 4))) f) 0 16
  if sqSize ring < (v + 65536 - s.ringCount (sqHead ring)) % 65536 then (s.orReg (kMb 4) 4).note 173
  else s.setField (kMb (sqHead ring - 4)) 0 16 v

/-- CQ_HEAD written: waiting entries find room (R284). -/
def cqHeadStore (f : W32 × W32) (s : State) : State :=
  (s.setField (kMb 0x20) 0 16 (getBits (mergeBits (s.reg (kMb 0x20)) f) 0 16)).cqFlush

/-- A RESET or CQ_HOST write is ignored (R286). -/
def mbReject (s : State) : State := s.orReg (kMb 4) 0x10

/-- Every ring count is 0 (R286): entries that waited for room in the CQ find it (R284). -/
def ringsReset (s : State) : State :=
  let s := (List.range 6).foldl (fun s i => s.setField (kMb (0x10 + 4 * i)) 0 16 0) s
  ({ s with serve := { s.serve with voids := [] } }).cqFlush

/-- A write of MB_CTRL: EN, then RESET (R286). -/
def mbCtrlStore (f : W32 × W32) (s : State) : State :=
  let s := s.setField (kMb 0) 0 1 (getBits (mergeBits (s.reg (kMb 0)) f) 0 1)
  if cmdBit f 1 then (if s.fieldAt (kMb 0) 0 1 = 1 then mbReject s else ringsReset s) else s

/-- A write of CQ_HOST_LO or CQ_HOST_HI. -/
def cqHostStore (hi : Bool) (f : W32 × W32) (s : State) : State :=
  if s.fieldAt (kMb 0) 0 1 = 1 then mbReject s
  else
    let k := kMb (if hi then 0x2C else 0x28)
    s.setReg k (mergeBits (s.reg k) f)

/-- SQx_TAIL. -/
def execSqTailWrite (ring : Nat) (data : W32) (s : State) : Res :=
  .next (sqTailStore (ring % 2) (writeForm (s.maskMode 8) false data) s)
/-- CQ_HEAD. -/
def execCqHeadWrite (data : W32) (s : State) : Res := .next (cqHeadStore (writeForm (s.maskMode 8) false data) s)
/-- MB_CTRL.RESET. -/
def execMbReset (s : State) : Res := .next (mbCtrlStore (2, 2) s)
/-- MB_CTRL.EN. -/
def execMbEnWrite (en : Bool) (s : State) : Res := .next (mbCtrlStore (w32 (bit en), 1) s)
/-- CQ_HOST. -/
def execCqHostWrite (hi : Bool) (data : W32) (s : State) : Res :=
  .next (cqHostStore hi (writeForm (s.maskMode 8) true data) s)

/-! ### Taking an entry (R279 to R281) -/

/-- Fields of an entry. -/
def eOpc (e : List Byte) : Nat := leAt e 0 1
/-- CMD_ID. -/
def eId (e : List Byte) : W16 := BitVec.ofNat 16 (leAt e 2 2)
/-- BERTH. -/
def eBerth (e : List Byte) : Nat := leAt e 4 2
/-- TAG. -/
def eTag (e : List Byte) : Nat := leAt e 8 8
/-- ADDR. -/
def eAddr (e : List Byte) : Nat := leAt e 16 8
/-- ARG. -/
def eArg (e : List Byte) : Nat := leAt e 24 4

/-- Entry n of a submission ring. -/
def State.sqEntry (s : State) (ring n : Nat) : List Byte := s.windows.read (sqBase ring + 64 * (n % sqSize ring)) 64

/-- A command may be taken from a ring: Yeweric runs with EN set, an entry waits, SQ1 goes first, and the CQ has room (R281,
R284). -/
def State.mayTake (s : State) (ring : Nat) : Bool :=
  s.yeweric && s.fieldAt (kMb 0) 0 1 = 1 && s.sqWaiting ring != 0 && (ring = 1 || s.sqWaiting 1 = 0) &&
  s.cqRoom (ring = 1) && (ring = 1 || s.serve.cq.isEmpty)

/-- The entry at the head of a ring is taken (R281, R445). -/
def takeEntry (ring : Nat) (s : State) : List Byte × State :=
  let n := s.ringCount (sqHead ring)
  let e := s.sqEntry ring n
  let s := s.setField (kMb (sqHead ring)) 0 16 ((n + 1) % 65536)
  (e, s.trace 5 0 0xFFFF ((List.range 4).map (fun i => w32 (leAt e (4 * i) 4))))

/-- A command completes with a status, for a berth where one is concerned (R284): after a command that the berth still waits
for (R281). -/
def finish (ring : Nat) (e : List Byte) (status : Nat) (b : Option (Nat × Berth)) (s : State) : State :=
  match b with
  | some p =>
    match s.berth p.1 with
    | some x =>
      if x.cmd.isSome then
        s.setBerth p.1 { x with after := x.after ++
          [cqDone (eId e) (BitVec.ofNat 8 (eOpc e)) ring status p.1 x.tag (w32 x.generated)] }
      else berthDone (eId e) (eOpc e) ring status p.1 p.2 s
    | none => berthDone (eId e) (eOpc e) ring status p.1 p.2 s
  | none => s.cqPush (cqDone (eId e) (BitVec.ofNat 8 (eOpc e)) ring status 0xFFFF 0 0)

/-- Reserved and unused fields of an entry are 0 and its arguments in range (R279, R280). -/
def fieldsOk (e : List Byte) : Bool :=
  let o := eOpc e
  let byBerth := o = 2 || o = 5
  let one := o = 3 || o = 4 || o = 6
  leAt e 1 1 = 0 && leAt e 6 2 = 0 && zeros e 28 63 && leAt e 2 2 != 0xFFFF &&
  (byBerth || one || eBerth e = 0) && ((byBerth && eBerth e = 0xFFFF) || eTag e = 0) &&
  (o = 1 || o = 5 || o = 9 || ((o = 7 || o = 8 || o = 0xB) && decide (eAddr e < 65536)) || eAddr e = 0) &&
  (if o = 6 then decide (eArg e < 8) else if o = 7 || o = 8 then decide (eArg e < 2 ^ 20) else eArg e = 0)

/-- Opcodes that SQ1 takes (R280). -/
def urgentOpc (o : Nat) : Bool := o = 2 || o = 5 || o = 7 || o = 8 || o = 0xA || o = 0xB

/-- Opcodes of R280. -/
def definedOpc (o : Nat) : Bool := 1 ≤ o && o ≤ 0xB

/-- Entry n of SQ0 is a SUBMIT that a CANCEL has made void: the TAG (R294). -/
def State.voided (s : State) (n : Nat) : Option W64 := (s.serve.voids.find? (fun v => v.1 = n)).map (·.2)

/-- A mailbox command: the entry at the head of its ring is taken, refused with MB_OPC or MB_FIELD, or carried out; a void
SUBMIT is not refused (R294). The row of NOP also takes entries of an undefined opcode. An entry of another command stays
(entry 5). -/
def mbCommand (ring opc : Nat) (body : List Byte → State → State) (s : State) : State :=
  let ring := ring % 2
  if !s.mayTake ring then s
  else
    let n := s.ringCount (sqHead ring)
    let o := eOpc (s.sqEntry ring n)
    if !(o = opc || (opc = 0xA && !definedOpc o)) then s
    else
      let r := takeEntry ring s
      if o != opc || (ring = 1 && !urgentOpc o) then finish ring r.1 0xD0 none r.2
      else if !fieldsOk r.1 && !(o = 1 && (s.voided n).isSome) then finish ring r.1 0xD1 none r.2
      else body r.1 r.2

/-- The berth an entry names, or the status that says why none is found (R280, R285, R295). Only CANCEL and QUERY name one by
TAG (R280). -/
def findBerth (e : List Byte) (s : State) : Except Nat (Nat × Berth) :=
  if eBerth e != 0xFFFF then
    match s.berth (eBerth e) with
    | some x => .ok (eBerth e, x)
    | none => .error (if s.serve.finished.any (fun p => p.1 = eBerth e) then 0xD5 else 0xD2)
  else if eOpc e != 2 && eOpc e != 5 then .error 0xD2
  else
    match s.serve.berths.find? (fun p => p.2.tag.toNat = eTag e) with
    | some p => .ok p
    | none => .error (if s.serve.finished.any (fun p => p.2.toNat = eTag e) then 0xD5 else 0xD2)

/-- A command on a berth: refused where it is not found, or already ends (R285). -/
def onBerth (ring : Nat) (e : List Byte) (act : Nat → Berth → State → State) (s : State) : State :=
  match findBerth e s with
  | .error c => finish ring e c none s
  | .ok p =>
    if p.2.st = .cancelling || p.2.st = .retiring then finish ring e 0xD5 (some p) s else act p.1 p.2 s

/-- A command that needs an accepted manifest and a running chart (R270, R285). -/
def configured (ring : Nat) (e : List Byte) (act : State → State) (s : State) : State :=
  if s.serve.manifest.isSome && s.chartRuns then act s else finish ring e 0xD7 none s

/-! ### SUBMIT (R282, R294, R361) -/

/-- A 32-bit code is a finite FP32 number above 0. -/
def fpPositive (v : Nat) : Bool := 0 < v && v < 0x7F800000

/-- The request descriptor is in range (R282). -/
def descOk (m : Manifest) (d : List Byte) : Bool :=
  let f := leAt d
  f 8 2 < 4096 && f 10 1 < 8 && fld (f 11 1) 4 3 = 0 && 1 ≤ f 12 4 && f 12 4 + 65 ≤ m.kmax * 64 && 1 ≤ f 32 4 && 1 ≤ f 36 4 &&
  1 ≤ f 40 4 && f 40 4 ≤ 65535 && (f 44 4 = 0 || fpPositive (f 44 4)) && 1 ≤ f 48 4 && f 48 4 ≤ 0x3F800000 &&
  f 52 1 ≤ 64 && zeros d 53 55 && f 60 1 ≤ 8 && zeros d 61 63 && zeros d 96 127 && d.length = 128 &&
  (!bitAt (f 11 1) 7 || (m.tnodes.drop (f 11 1 % 16)).headD 0 != 0)

/-- The tenant serves some basin of the running chart. -/
def State.servesTenant (s : State) (t : Nat) : Bool :=
  s.tide.chart.any (fun c => c.basins.any (fun b => b.tenant.toNat = t))

/-- IDs of FREE berths. -/
def State.freeIds (s : State) : List Nat := (List.range 4096).filter (fun b => (s.berth b).isNone)

/-- Token IDs of 4 bytes each. -/
def tokensOf (n : Nat) (bs : List Byte) : List W32 := (List.range n).map (fun i => w32 (leAt bs (4 * i) 4))

/-- Leading containers that an adopting SUBMIT may fetch (R361). -/
def State.adoptable (s : State) (promptLen : Nat) : Option Nat :=
  if s.fieldAt (kMb 0x40) 1 1 = 1 then some ((promptLen - 1) / 64) else none

/-- A new QUEUED berth (R267, R282). -/
def newBerth (d : List Byte) (prompt : List W32) (s : State) : Berth :=
  let f := leAt d
  { st := .queued, tenant := BitVec.ofNat 12 (f 8 2), tag := w64 (f 0 8), prio := f 10 1, position := 0, promptLen := f 12 4,
    promptDone := 0, generated := 0, token0 := 0, prompt := prompt, pages := [], spill := [], tree := [],
    invTemp := w32 (f 44 4), topK := f 52 1, topP := w32 (f 48 4), seed := w32 (f 56 4), stops := tokensOf (f 60 1) (d.drop 64),
    outAddr := w64 (f 24 8), outCap := f 32 4, maxNew := f 36 4, notify := f 40 4,
    spec := if bitAt (f 11 1) 7 then some (f 11 1 % 16) else none, slot := none, park := [], parked := 0, cmd := none,
    tsSubmit := s.now, tsFirst := 0, tsLast := 0, numerr := 0, carry := false, reported := 0, held := 0, since := s.now,
    zeroing := [], reason := 0, releaseAt := none, keepD0 := 255, keepN := 0, keepBase := 0, new := 0,
    adopting := s.adoptable (f 12 4), mpos := 0, after := [], siloE := 0 }

/-- A berth is created: its ID is Yeweric's choice among the FREE ones, and its ledger entry is cleared (R266, R341). -/
def createBerth (ring : Nat) (e d : List Byte) (prompt : List W32) (s : State) : State :=
  let ids := s.freeIds
  match (ids.drop (Config.freeCount s.free % ids.length)).head? with
  | none => finish ring e 0xD3 none s
  | some b =>
    let s := s.useFree
    let x := newBerth d prompt s
    let s := s.setBerth b x
    let s := { s with windows := s.windows.write (berthLedger b) (List.replicate 16 0) }
    finish ring e 0 (some (b, x)) s

/-- SUBMIT: the entry may be void (R294), else the descriptor is checked (R282). -/
def submitBody (ring : Nat) (desc prompt : HostRead) (e : List Byte) (s : State) : State :=
  let n := (s.ringCount (sqHead 0) + 65535) % 65536
  match if ring = 0 then s.voided n else none with
  | some tag =>
    let s := finish ring e 0 none { s with serve := { s.serve with voids := s.serve.voids.filter (fun v => v.1 != n) } }
    s.cqPush { cmdId := 0xFFFF, status := 0, kind := 2, berth := 0xFFFF, opc := 0, tag := tag, count := 0, detail := 5,
               urgent := false }
  | none =>
    match s.serve.manifest with
    | none => finish ring e 0xD7 none s
    | some m =>
      if !s.chartRuns then finish ring e 0xD7 none s
      else match desc with
        | none => finish ring e 0xD8 none s
        | some d =>
          if !descOk m d then finish ring e 0xD1 none s
          else if !s.servesTenant (leAt d 8 2) then finish ring e 0xD6 none s
          else match prompt.filter (fun p => p.length = 4 * leAt d 12 4) with
            | none => finish ring e (if s.freeIds.isEmpty then 0xD3 else 0xD8) none s
            | some p => createBerth ring e d (tokensOf (leAt d 12 4) p) s

/-- SUBMIT. -/
def execSubmit (ring : Nat) (desc prompt : HostRead) (s : State) : Res :=
  .next (mbCommand ring 1 (submitBody (ring % 2) desc prompt) s)

/-! ### CANCEL (R294 to R297) -/

/-- The step that a tide index lies in, and the tide within it (R271). -/
def Manifest.stepOf (m : Manifest) (n : Nat) : Option (Nat × Nat) :=
  if m.stepOffset ≤ n then some ((n - m.stepOffset) / m.stepTides, (n - m.stepOffset) % m.stepTides) else none

/-- Stack address of a row of a copy of the step table (R271). -/
def Manifest.stepRow (m : Manifest) (copy slot : Nat) : Nat := sadr m.stepTbl.toNat + copy * m.nslot * 64 + slot * 64

/-- MASK is set in the row of the current step, and ACTIVE cleared in that of the next, where those rows are the berth's
(R296). -/
def maskRow (b slot : Nat) (s : State) : State :=
  match s.serve.manifest.bind (fun m => (m.stepOf s.tideIdx.toNat).map (fun t => (m, t.1))) with
  | none => s
  | some (m, t) =>
    let edit := fun (step : Nat) (f : Nat → Nat) (s : State) =>
      let a := m.stepRow (step % 2) slot
      let g := s.readStack a 5
      let s := g.1
      let r := g.2.1
      if leAt r 0 2 = b && leAt r 2 2 = step % 65536 then s.writeStack (a + 4) [BitVec.ofNat 8 (f (leAt r 4 1))] else s
    edit (t + 1) (fun v => v - v % 2) (edit t (fun v => v ||| 16) s)

/-- A berth in QUEUED to UNPARKING, or FAILED, that no command waits for enters CANCELLING (R295 to R297). What an adopting
QUEUED berth has fetched is released (R272). A FAILED berth's mirror record stays with its partner (R360). -/
def cancelBerth (b : Nat) (x : Berth) (s : State) : State :=
  let y := { x with st := .cancelling, reason := 5, adopting := none, mpos := if x.st = .failed then 0 else x.mpos }
  let s := s.setBerth b y
  match x.slot with
  | some n =>
    let s := maskRow b n s
    s.setBerth b { y with releaseAt := some (s.tideIdx + 2) }
  | none =>
    if x.st = .parked then berthFree b s
    else if x.st = .queued then berthFree b (releaseContainers b s)
    else
      let s := (freeExtents x.park s).setBerth b { y with park := [] }
      berthEmptied b (releaseContainers b s)

/-- SQ0 SUBMIT entries that are not taken, with their numbers. -/
def State.submitsWaiting (s : State) : List Nat :=
  ((List.range (s.sqWaiting 0)).map (fun i => (s.ringCount (sqHead 0) + i) % 65536)).filter
    (fun n => eOpc (s.sqEntry 0 n) = 1)

/-- The waiting SUBMIT whose descriptor has a TAG (R294). -/
def State.waitingTag (s : State) (waiting : List HostRead) (tag : Nat) : Option Nat :=
  ((s.submitsWaiting.zip waiting).find? (fun p =>
    (s.voided p.1).isNone && p.2.any (fun d => leAt d 0 8 = tag))).map (·.1)

/-- CANCEL: a command that waits for the berth ends first, with MB_ALREADY (R281, R297). `waiting` is what the descriptors of the
SUBMIT entries that wait in SQ0 hold, in order. -/
def cancelBody (ring : Nat) (waiting : List HostRead) (e : List Byte) (s : State) : State :=
  match findBerth e s with
  | .ok p =>
    if p.2.st = .cancelling || p.2.st = .retiring then finish ring e 0xD5 (some p) s
    else
      let s := endCmd p.1 (if p.2.st = .unparking then 4 else 3) 0xD5 s
      cancelBerth p.1 { p.2 with cmd := none, after := [] } (finish ring e 0 (some p) s)
  | .error c =>
    match if eBerth e = 0xFFFF then s.waitingTag waiting (eTag e) else none with
    | some n => finish ring e 0 none { s with serve := { s.serve with voids := s.serve.voids ++ [(n, w64 (eTag e))] } }
    | none => finish ring e c none s

/-- CANCEL. -/
def execCancel (ring : Nat) (waiting : List HostRead) (s : State) : Res :=
  .next (mbCommand ring 2 (cancelBody (ring % 2) waiting) s)

/-! ### PARK and UNPARK (R299, R300, R376, R378) -/

/-- PARK: a READY berth starts to park; one in a slot leaves it at the next step boundary, in the preparation window (R299,
entry 85). -/
def parkBody (ring : Nat) (e : List Byte) (s : State) : State :=
  configured ring e (onBerth ring e (fun b x s =>
    if (x.st = .decode || x.st = .ready) && x.cmd.isNone then
      match parkStart b x (some (eId e, ring)) s with
      | some t => if x.st = .decode then s.setBerth b { x with cmd := some (eId e, ring) } else t
      | none => finish ring e 0xDA (some (b, x)) s
    else finish ring e 0xD4 (some (b, x)) s)) s

/-- PARK. -/
def execPark (ring : Nat) (s : State) : Res := .next (mbCommand ring 3 (parkBody (ring % 2)) s)

/-- Silo address of byte i of a parked image. -/
def State.imageAddr (s : State) (ext : List Nat) (i : Nat) : Nat :=
  match s.poolSlot with
  | some p => p.addr + (ext.drop (i / extentBytes)).headD 0 * extentBytes + i % extentBytes
  | none => 0

/-- Containers in layer-group and block order are read, through ECC, and written as the image (R122, R299). -/
def saveImage (ext : List Nat) : List W32 → Nat → State → State
  | [], _, s => s
  | c :: t, i, s =>
    let r := s.readStack (s.cidAddr c) s.stack.container
    let s := r.1
    let bs := r.2.1
    let m := (bs.zipIdx).foldl (fun m p => m.set (s.imageAddr ext (i + p.2)) p.1) s.silo.mem
    saveImage ext t (i + s.stack.container) { s with silo := { s.silo with mem := m } }

/-- The pages of extents of the POOL slot have programmed without failure (R376). -/
def freshExtents (ext : List Nat) (s : State) : State :=
  { s with silo := { s.silo with badPages := s.silo.badPages.filter (fun a => !(ext.any (fun e =>
      s.poolSlot.any (fun p => decide (p.addr + e * extentBytes ≤ a) && decide (a < p.addr + (e + 1) * extentBytes))))) } }

/-- Every container of a berth's pages lies in a column that the mesh joins to the silo's corner (R17, R18). -/
def State.siloJoins (s : State) (x : Berth) : Bool := x.pages.flatten.all (fun c => s.routable siloRouter (cidQuay c))

/-- A silo transfer of a berth has spent the energy of the events counted in it (R340). -/
def siloEnergy (b : Nat) (counts : List Nat) (s : State) : State :=
  let e := s.eventEnergy counts
  let s := { s with power := { s.power with siloSpent := s.power.siloSpent + e } }
  match s.berth b with
  | some x => s.setBerth b { x with siloE := x.siloE + e }
  | none => s

/-- The image of a parking berth is verified (R299, R376). `counts`: the events of its transfer (R340). -/
def execParkVerified (b : SiloEnd) (s : State) : Res :=
  .next (match s.berth b.berth with
    | none => s
    | some x =>
      if x.st != .parking || x.containers.isEmpty || !s.siloJoins x then s
      else
        let s := siloEnergy b.berth b.counts (freshExtents x.park (saveImage x.park x.pages.flatten 0 s))
        let s := s.siloWrote 1 (s.imageBytes x.pages.flatten.length)
        berthEmptied b.berth (releaseContainers b.berth s))

/-- A list cut into n pieces of equal length. -/
def cut : Nat → Nat → List W32 → List (List W32)
  | 0, _, _ => []
  | n + 1, k, l => l.take k :: cut n k (l.drop k)

/-- An unparking berth takes fresh containers for its image, where the pool holds them (R300). -/
def takeImage (m : Manifest) (b : Nat) (s : State) : State :=
  match s.berth b with
  | none => s
  | some x =>
    if !x.pages.isEmpty then s
    else match takeMany x.tenant (m.ngroup * x.parked) s with
      | some (cs, s) => s.setBerth b { x with pages := cut m.ngroup x.parked cs }
      | none => s

/-- A PARKED berth starts to unpark. -/
def unparkStart (m : Manifest) (b : Nat) (x : Berth) (cmd : Option (W16 × Nat)) (s : State) : State :=
  takeImage m b (s.setBerth b { x with st := .unparking, cmd := cmd })

/-- UNPARK. -/
def unparkBody (ring : Nat) (e : List Byte) (s : State) : State :=
  configured ring e (onBerth ring e (fun b x s =>
    match s.serve.manifest with
    | some m => if x.st = .parked then unparkStart m b x (some (eId e, ring)) s else finish ring e 0xD4 (some (b, x)) s
    | none => s)) s

/-- UNPARK. -/
def execUnpark (ring : Nat) (s : State) : Res := .next (mbCommand ring 4 (unparkBody (ring % 2)) s)

/-- The image is loaded into containers. -/
def loadImage (ext : List Nat) : List W32 → Nat → State → State
  | [], _, s => s
  | c :: t, i, s =>
    let bs := (List.range s.stack.container).map (fun j => s.silo.mem.get (s.imageAddr ext (i + j)))
    loadImage ext t (i + s.stack.container) (s.writeStack (s.cidAddr c) bs)

/-- A page of a parked image cannot be read. -/
def State.imageBad (s : State) (ext : List Nat) : Bool :=
  ext.any (fun e => s.poolSlot.any (fun p => s.badPage (p.addr + e * extentBytes) extentBytes))

/-- The last container of an unparking berth is loaded: READY, and its extents are free again (R300, R376). `counts`: the events
of its transfer (R340). -/
def execUnparkLoaded (b : SiloEnd) (s : State) : Res :=
  .next (match s.serve.manifest with
    | none => s
    | some m =>
      let s := match s.berth b.berth with
        | some x => if x.st = BState.unparking then takeImage m b.berth s else s
        | none => s
      match s.berth b.berth with
      | none => s
      | some x =>
        if x.st != BState.unparking || x.pages.isEmpty || s.imageBad x.park || !s.siloJoins x then s
        else
          let s := freeExtents x.park (loadImage x.park x.pages.flatten 0 s)
          let y := { x with st := .ready, park := [], since := s.now, held := 0 }
          let s := siloEnergy b.berth b.counts (s.setBerth b.berth y)
          if x.cmd.isSome then endCmd b.berth 4 0 s else berthEvent 4 b.berth 0 y s)

/-- A silo read of the image fails: FAILED with SILO_UE (R300, R380). -/
def execUnparkReadFail (b : Nat) (s : State) : Res :=
  .next (match s.berth b with
    | none => s
    | some x =>
      if x.st != .unparking then s
      else
        let i := (s.silo.slots.find? (fun p => p.2.st = .pool)).map (·.1)
        berthFail b 0xE0 (s.slogPush 0xE0 (i.getD 255) (s.imageAddr x.park 0)))

/-! ### QUERY, SET_PRIO, QUENCH, WAKE, NOP (R280, R283) -/

/-- The QUERY status record (R283). -/
def statusRecord (b : Nat) (x : Berth) : List Byte :=
  leBytes 2 b ++ leBytes 1 (berthCode x.st) ++ leBytes 1 x.prio ++ leBytes 4 x.position ++ leBytes 4 x.promptDone ++
  leBytes 4 x.generated ++ leBytes 4 x.holds ++ leBytes 4 (x.slot.getD 0xFFFFFFFF) ++
  leBytes 8 x.tsSubmit.toNat ++ leBytes 8 x.tsFirst.toNat ++ leBytes 8 x.tsLast.toNat ++ leBytes 8 x.tag.toNat ++
  leBytes 4 x.numerr ++ leBytes 4 0

/-- QUERY. -/
def queryBody (ring : Nat) (ok : HostOk) (e : List Byte) (s : State) : State :=
  match findBerth e s with
  | .error c => finish ring e c none s
  | .ok p =>
    if ok then finish ring e 0 (some p) (s.emit (.hostWrite (w64 (eAddr e)) (statusRecord p.1 p.2)))
    else finish ring e 0xD8 (some p) s

/-- QUERY. -/
def execQuery (ring : Nat) (ok : HostOk) (s : State) : Res := .next (mbCommand ring 5 (queryBody (ring % 2) ok) s)

/-- SET_PRIO. -/
def setPrioBody (ring : Nat) (e : List Byte) (s : State) : State :=
  onBerth ring e (fun b x s =>
    let y := { x with prio := eArg e }
    finish ring e 0 (some (b, y)) (s.setBerth b y)) s

/-- SET_PRIO. -/
def execSetPrio (ring : Nat) (s : State) : Res := .next (mbCommand ring 6 (setPrioBody (ring % 2)) s)

/-- The pilots send a packet whose completion ends a command (R253, R280). -/
def pilotSend (ring : Nat) (e : List Byte) (typ arg : Nat) (raddr : W32) (s : State) : State :=
  let tag := s.fabric.pilotSerial
  let k := newPacket s typ 4 (BitVec.ofNat 16 (eAddr e)) 0xF0 0 arg tag raddr []
  let o : OutPkt := { send := 0, pkt := k, acks := acksFor s k, resends := 0, lastSent := s.now, start := pilotRouter tag }
  let s := { s with fabric := { s.fabric with pilotSerial := tag + 1, pilotOut := s.fabric.pilotOut ++ [o] } }
  let w : MbWait := { cmdId := eId e, opc := BitVec.ofNat 8 (eOpc e), tag := tag, ring := ring }
  originate (pilotRouter tag) k { s with serve := { s.serve with waits := s.serve.waits ++ [w] } }

/-- QUENCH or UNQUENCH: QUENCH_k where the EID is local, else a packet (R247, R280). -/
def quenchBody (ring : Nat) (close : Bool) (e : List Byte) (s : State) : State :=
  if (s.route (BitVec.ofNat 16 (eAddr e))).kind = 2 then
    finish ring e 0 none (quenchMask (fld (eArg e) 0 16) (fld (eArg e) 16 4) close s)
  else pilotSend ring e (if close then 6 else 7) 0 (w32 (eArg e)) s

/-- QUENCH. -/
def execMbQuench (ring : Nat) (s : State) : Res := .next (mbCommand ring 7 (quenchBody (ring % 2) true) s)
/-- UNQUENCH. -/
def execMbUnquench (ring : Nat) (s : State) : Res := .next (mbCommand ring 8 (quenchBody (ring % 2) false) s)
/-- NOP, and every undefined opcode. -/
def execMbNop (ring : Nat) (s : State) : Res := .next (mbCommand ring 0xA (fun e s => finish (ring % 2) e 0 none s) s)
/-- WAKE (R248). -/
def execMbWake (ring : Nat) (s : State) : Res := .next (mbCommand ring 0xB (fun e s => pilotSend (ring % 2) e 8 1 0 s) s)

/-! ### SERVE_CONFIG (R270, R271, R301, R386) -/

/-- A manifest as its bytes give it. -/
def parseManifest (b : List Byte) : Manifest :=
  let f := leAt b
  { chartId := w64 (f 4 8), stepTides := f 12 2, stepOffset := f 14 2, resultTide := f 16 2, resultNs := f 18 2, nslot := f 20 2,
    pfChunks := f 22 2, pfTokens := f 24 2, ngroup := f 26 2, kmax := f 28 4, stepTbl := w32 (f 32 4), resultTbl := w32 (f 36 4),
    ptMirror := w32 (f 40 4), pfTok := w32 (f 44 4), tmpl := w32 (f 48 4), quantum := f 52 4, lowWater := f 56 4,
    parents := (List.range 16).map (fun i => slice b (64 + 64 * i) 64), tnodes := (List.range 16).map (fun i => f (1088 + i) 1) }

/-- Every field lies in its range, and every region in the space it must have (R271). -/
def Manifest.ranges (m : Manifest) : Bool :=
  1 ≤ m.stepTides && m.stepTides ≤ 4096 && m.stepOffset < m.stepTides && m.resultTide < m.stepTides && 1 ≤ m.nslot &&
  m.nslot ≤ 4096 && m.pfChunks ≤ m.nslot && 1 ≤ m.pfTokens && m.pfTokens ≤ 4096 && 1 ≤ m.ngroup && 2 ≤ m.kmax &&
  m.kmax ≤ 65536 && 1 ≤ m.quantum && m.tnodes.all (fun n => decide (n ≤ 64)) &&
  saSpace (sadr m.stepTbl.toNat) = 0 && saSpace (sadr m.resultTbl.toNat) = 0 && saSpace (sadr m.ptMirror.toNat) = 2 &&
  saSpace (sadr m.pfTok.toNat) ≤ 1 && saSpace (sadr m.tmpl.toNat) = 0

/-- No two ranges of a list overlap. -/
def disjoint : List (Nat × Nat) → Bool
  | [] => true
  | r :: t => t.all (fun u => decide (r.1 + r.2 ≤ u.1) || decide (u.1 + u.2 ≤ r.1)) && disjoint t

/-- The manifest is acceptable (R270). -/
def State.manifestOk (s : State) (b : List Byte) : Bool :=
  let m := parseManifest b
  b.length = 1104 && leAt b 0 4 = 0x53455256 && zeros b 60 63 && s.tide.chart.any (fun c => c.id = m.chartId) && m.ranges &&
  m.regions.all (fun r => (s.checkStack r.1 r.2).isNone) && disjoint m.regions

/-- Container slots of a region of the context store. -/
def State.slotsOf (s : State) (r : Nat × Nat) : List Nat :=
  if saSpace r.1 != 2 || s.stack.container = 0 then []
  else (List.range s.slotCount).filter (fun i =>
    decide (i * s.stack.container < saOffset r.1 + r.2) && decide (saOffset r.1 < (i + 1) * s.stack.container))

/-- A slot under a manifest region takes the tenant of its column's quay, zeroed first where its tag changes (R386). -/
def tagRegion (r : Nat × Nat) (s : State) : State :=
  let q := saQuay r.1
  let v : W16 := match s.tenantOf q with
    | some t => BitVec.ofNat 16 (2 ^ 15 + t)
    | none => 0
  (s.slotsOf r).foldl (fun s i =>
    if s.tag q i = v then s
    else (s.zeroStack (stackAddr q 2 (i * s.stack.container)) s.stack.container).setTag q i v) s

/-- A manifest is accepted: CONFIGURED, regions tagged, the mirrors of the slots that berths keep (R273), templates placed. -/
def acceptManifest (m : Manifest) (s : State) : State :=
  let step := ((m.stepOf s.tideIdx.toNat).map (·.1)).getD 0
  let s := { s with serve := { s.serve with manifest := some m, former := none, rows := [], step := step } }
  let s := m.regions.foldl (fun s r => tagRegion r s) s
  let s := s.berthIds.foldl (fun s b => mirrorSlot m b s) s
  setConfigured true (s.writeStack (sadr m.tmpl.toNat) m.parents.flatten)

/-- A berth holds a slot. -/
def State.slotHeld (s : State) : Bool := s.serve.berths.any (fun p => p.2.slot.isSome)

/-- SERVE_CONFIG. After a switch the berths keep their slots only under a manifest of equal NSLOT, NGROUP and KMAX (R301). -/
def serveConfigBody (ring : Nat) (manifest : HostRead) (e : List Byte) (s : State) : State :=
  if !s.chartRuns then finish ring e 0xD7 none s
  else match manifest with
    | none => finish ring e 0xD8 none s
    | some b =>
      if !s.manifestOk b then finish ring e 0xD9 none s
      else
        let m := parseManifest b
        match s.serve.former with
        | some f =>
          let keep := f.nslot = m.nslot && f.ngroup = m.ngroup && f.kmax = m.kmax
          finish ring e 0 none (acceptManifest m (if keep then s else slotsToReady s))
        | none => if s.slotHeld then finish ring e 0xD4 none s else finish ring e 0 none (acceptManifest m s)

/-- SERVE_CONFIG. -/
def execServeConfig (ring : Nat) (manifest : HostRead) (s : State) : Res :=
  .next (mbCommand ring 9 (serveConfigBody (ring % 2) manifest) s)

end Sys2Proof.Machine
end

