-- ==== Sys2Proof/Machine/Windows.lean ====
section
/-! DEFINITION. The preparation window of a step: result rows, admission, time-slicing, parking, prefill chunks, the rows of
the next step and the energy ledgers (R273 to R277, R287 to R289, R293, R298, R299, R340, R341). -/

namespace Sys2Proof.Machine

/-! ### Result rows (R276, R289, R293) -/

/-- The tokens kept of an emission, and the finish reason that ends it (R289): STOP before MAX_NEW before OUT_CAP. -/
def keepTokens (x : Berth) : Nat → List W32 → List W32 × Option Nat
  | _, [] => ([], none)
  | g, t :: ts =>
    if x.stops.contains t then ([t], some 1)
    else if x.maxNew ≤ g + 1 then ([t], some 2)
    else if x.outCap ≤ g + 1 then ([t], some 3)
    else
      let r := keepTokens x (g + 1) ts
      (t :: r.1, r.2)

/-- The first depth at which the accepted path leaves the main chain (R293). -/
def keepDepth (row : List Byte) (nacc : Nat) : Option Nat := (List.range nacc).find? (fun d => leAt row (8 + d) 1 != d)

/-- The ledger counts a berth's tokens (R341). -/
def ledgerTokens (b n : Nat) (s : State) : State :=
  let a := berthLedger b + 8
  { s with windows := s.windows.write a (leBytes 4 (leNat (s.windows.read a 4) + n)) }

/-- The berth after a valid row, the tokens it emits, and the reason it ends (R289). `written`: how many of its tokens were
written where a write then failed. -/
def rowResult (m : Manifest) (x : Berth) (row : List Byte) (written : Option Nat) : Berth × List W32 × Option Nat :=
  let nacc := min 64 (leAt row 4 1)
  let toks := tokensOf nacc (row.drop 72)
  let prefill := decide (x.promptDone < x.promptLen)
  let last := decide (x.promptLen ≤ x.promptDone + x.new)
  let out := if prefill then (if last then toks.take 1 else []) else toks
  let pos := x.position + (if prefill then x.new else nacc)
  let all := keepTokens x x.generated out
  let kept := match written with
    | some n => if n < all.1.length then (all.1.take n, some 6) else all
    | none => all
  let reason := match kept.2 with
    | some r => some r
    | none => if m.kmax * 64 < pos + 64 then some 4 else none
  let d := if prefill then none else keepDepth row nacc
  let y := { x with
    position := pos, promptDone := if prefill then x.promptDone + x.new else x.promptDone,
    st := if prefill && last && x.st = .prefill then .decode else x.st,
    token0 := (out.drop (out.length - 1)).headD x.token0, generated := x.generated + kept.1.length,
    keepD0 := d.getD 255, keepN := match d with
      | some v => nacc - v
      | none => 0,
    keepBase := x.position }
  (y, kept.1, reason)

/-- The TOKENS event of a row: after NOTIFY tokens, or at once with NUMERR (R284, R289). -/
def notifyRow (b : Nat) (numerr : Bool) (gained : Nat) (x : Berth) (s : State) : State :=
  if (numerr && gained != 0) || decide (x.notify ≤ x.generated - x.reported) then
    berthEvent 1 b (bit (numerr || x.carry)) x (s.setBerth b { x with reported := x.generated, carry := false })
  else s.setBerth b { x with carry := x.carry || numerr }

/-- Tokens reach the output buffer and the stamps and the ledger follow. -/
def emitTokens (b : Nat) (x y : Berth) (toks : List W32) (s : State) : Berth × State :=
  if toks.isEmpty then (y, s)
  else
    let s := s.emit (.hostWrite (x.outAddr + w64 (4 * x.generated)) ((toks.map (fun t => leBytes 4 t.toNat)).flatten))
    ({ y with tsFirst := if x.generated = 0 then s.now else y.tsFirst, tsLast := s.now }, ledgerTokens b toks.length s)

/-- The result row of a berth (R289). A row without VALID, or of another step, produced nothing (R277). -/
def processRow (m : Manifest) (step : Nat) (failed : List (Nat × Nat)) (s : State) (r : Nat × Nat × Nat) : State :=
  let b := r.2.1
  match s.berth b with
  | none => s
  | some x =>
    if x.st != .prefill && x.st != .decode then s
    else
      let q := s.readStack (sadr m.resultTbl.toNat + (step % 2) * m.nslot * 384 + r.1 * 384) 384
      let s := q.1
      let row := q.2.1
      let valid := q.2.2.isNone && bitAt (leAt row 5 1) 0 && leAt row 2 2 = step % 65536 && leAt row 0 2 = b
      if !valid then s
      else
        let numerr := bitAt (leAt row 5 1) 1
        let x := if numerr then { x with numerr := min 0xFFFFFFFF (x.numerr + 1) } else x
        let res := rowResult m x row ((failed.find? (fun f => f.1 = b)).map (·.2))
        let e := emitTokens b x res.1 res.2.1 s
        let s := notifyRow b numerr res.2.1.length e.1 e.2
        match res.2.2 with
        | some reason => berthRetire b reason s
        | none => s

/-! ### Slots (R287, R296, R298) -/

/-- A spill container of every layer group joins the pages of a berth whose position has passed its linked containers, and
fresh spill containers take its place; without them the berth sits out the step (R293). -/
def relink (m : Manifest) (s : State) (b : Nat) : State :=
  match s.berth b with
  | none => s
  | some x =>
    if x.st = .decode && 64 * x.nblk < x.position then
      match takeMany x.tenant m.ngroup s with
      | some (cs, s) =>
        mirrorSlot m b (s.setBerth b { x with pages := (x.pages.zip x.spill).map (fun p => p.1 ++ [p.2]), spill := cs })
      | none => s
    else s

/-- A key that orders waiting berths: higher PRIO, then longer wait. -/
def waitKey (x : Berth) : Nat := (7 - min 7 x.prio) * 2 ^ 64 + x.since.toNat

/-- Insertion into a list ordered by key. -/
def insertBy (k : Nat) (b : Nat) : List (Nat × Nat) → List (Nat × Nat)
  | [] => [(k, b)]
  | p :: t => if k < p.1 then (k, b) :: p :: t else p :: insertBy k b t

/-- Berths of a kind in the order of a key. -/
def State.ordered (s : State) (p : Berth → Bool) (key : Berth → Nat) : List Nat :=
  ((s.serve.berths.filter (fun e => p e.2)).foldl (fun l e => insertBy (key e.2) e.1 l) []).map (·.2)

/-- Berths that wait for a slot: READY first, then QUEUED without a fetch in progress (R287, R361). -/
def State.waiters (s : State) : List Nat :=
  s.ordered (fun x => x.st = .ready) waitKey ++ s.ordered (fun x => x.st = .queued && x.adopting.isNone) waitKey

/-- Tokens of the next prefill chunk (R288). -/
def Manifest.chunk (m : Manifest) (x : Berth) : Nat := min (x.promptLen - x.promptDone) m.pfTokens

/-- Pages with further containers linked in each layer group. -/
def addPages (ngroup n : Nat) (pages : List (List W32)) (cs : List W32) : List (List W32) :=
  let old := if pages.isEmpty then List.replicate ngroup [] else pages
  (old.zip (cut ngroup n cs)).map (fun p => p.1 ++ p.2)

/-- A berth receives a slot, with the containers that this needs: the first chunk's, spill and tree (R287, R301). -/
def grant (m : Manifest) (slot b : Nat) (s : State) : Option State :=
  match s.berth b with
  | none => none
  | some x =>
    let more := if x.st = .queued then ceilDiv (x.promptDone + m.chunk x) 64 - x.nblk else 0
    let spill := if x.spill.isEmpty then m.ngroup else 0
    let tree := if x.tree.isEmpty && x.spec.isSome then m.ngroup else 0
    match takeMany x.tenant (more * m.ngroup + spill + tree) s with
    | none => none
    | some (cs, s) =>
      let rest := cs.drop (more * m.ngroup)
      let y := { x with
        st := if x.promptDone < x.promptLen then .prefill else .decode, slot := some slot, held := 0,
        pages := if more = 0 then x.pages else addPages m.ngroup more x.pages cs,
        spill := if spill = 0 then x.spill else rest.take spill, tree := if tree = 0 then x.tree else rest.drop spill }
      some (mirrorSlot m b (s.setBerth b y))

/-- A free slot. -/
def State.freeSlot (s : State) (m : Manifest) : Option Nat :=
  (List.range m.nslot).find? (fun n => !s.serve.berths.any (fun p => p.2.slot = some n))

/-- DECODE berths that may be displaced for a waiter (R298). -/
def State.displaceable (s : State) (m : Manifest) (prio : Nat) : List (Nat × Nat) :=
  s.serve.berths.filterMap (fun p =>
    if p.2.st = .decode && p.2.prio ≤ prio && m.quantum ≤ p.2.held then p.2.slot.map (fun n => (p.1, n)) else none)

/-- A waiter receives a free slot, or that of a berth whose quantum has ended; which one, where there are several, is
Yeweric's choice (entry 3). -/
def serveWaiter (m : Manifest) (s : State) (b : Nat) : State :=
  match s.freeSlot m with
  | some n => (grant m n b s).getD s
  | none =>
    match s.berth b with
    | none => s
    | some x =>
      let c := s.displaceable m x.prio
      match (c.drop (Config.freeCount s.free % c.length)).head? with
      | none => s
      | some v => (grant m v.2 b (berthReady v.1 s.useFree)).getD s

/-! ### Automatic parking and unparking (R269, R298, R378) -/

/-- PARK_WAIT shown. -/
def setParkWait (v : Bool) (s : State) : State := s.setField (kSilo 0) 4 1 (bit v)

/-- The berth that an automatic park takes: READY before DECODE, lowest PRIO, oldest last token. -/
def State.parkChoice (s : State) : Option Nat :=
  let key := fun (x : Berth) => x.prio * 2 ^ 64 + x.tsLast.toNat
  (s.ordered (fun x => x.st = .ready) key ++ s.ordered (fun x => x.st = .decode) key).head?

/-- An automatic park, where the pool is below LOW_WATER, the silo has a place and the bucket holds the image. -/
def autoPark (m : Manifest) (s : State) : State :=
  if m.lowWater ≤ s.pool.length then setParkWait false s
  else match s.parkChoice.bind (fun b => (s.berth b).map (fun x => (b, x))) with
    | none => setParkWait false s
    | some (b, x) =>
      let rate := s.fieldAt (kSilo 0x4C) 0 16
      match parkStart b x none s with
      | none => s
      | some t =>
        if rate = 0 || s.bucketLevel < (s.imageBytes x.pages.flatten.length : Int) then setParkWait true s
        else setParkWait false t

/-- An automatic unpark, where a slot is free and the pool holds the image, its spill and its tree. -/
def autoUnpark (m : Manifest) (s : State) : State :=
  match (s.ordered (fun x => x.st = .parked) waitKey).head?.bind (fun b => (s.berth b).map (fun x => (b, x))) with
  | none => s
  | some (b, x) =>
    if (s.freeSlot m).isSome && decide (m.ngroup * (x.parked + 2) + m.lowWater ≤ s.pool.length) then unparkStart m b x none s else s

/-! ### Rows of the next step (R275, R288, R293) -/

/-- The running chart has a phase in which prefill chunks may be admitted (R189, R288). -/
def State.prefillPhase (s : State) : Bool := s.tide.chart.any (fun c => c.phases.any (·.prefill))

/-- One prefill chunk: its containers are linked and its tokens placed; no chunk where the pool cannot link it, or where the
chart has no PREFILL phase to carry it. -/
def giveChunk (m : Manifest) (step : Nat) (acc : State × List (Nat × Nat × Nat)) (b : Nat) : State × List (Nat × Nat × Nat) :=
  let s := acc.1
  match s.berth b with
  | none => acc
  | some x =>
    let j := acc.2.length
    let len := m.chunk x
    let more := ceilDiv (x.promptDone + len) 64 - x.nblk
    if m.pfChunks ≤ j || !s.prefillPhase then acc
    else match takeMany x.tenant (more * m.ngroup) s with
      | none => acc
      | some (cs, s) =>
        let y := if more = 0 then x else { x with pages := addPages m.ngroup more x.pages cs }
        let s := mirrorSlot m b (s.setBerth b y)
        let bytes := (((x.prompt.drop x.promptDone).take len).map (fun t => leBytes 4 t.toNat)).flatten
        let a := sadr m.pfTok.toNat + (step % 2) * (m.pfChunks * m.pfTokens * 4) + j * (m.pfTokens * 4)
        (s.writeStack a bytes, acc.2 ++ [(b, j, len)])

/-- The 64 bytes of a step row (R275). `flags`: byte 4; `new` and `tok`: NEW and TOKEN0. -/
def rowBytes (b step flags new tok : Nat) (x : Berth) : List Byte :=
  leBytes 2 b ++ leBytes 2 step ++ leBytes 1 flags ++ leBytes 1 (if bitAt flags 3 then x.spec.getD 0 else 0) ++
  leBytes 1 x.keepD0 ++ leBytes 1 x.keepN ++ leBytes 4 x.position ++ leBytes 4 new ++ leBytes 4 x.keepBase ++ leBytes 4 tok ++
  leBytes 4 x.nblk ++ leBytes 4 x.tenant.toNat ++ leBytes 4 x.invTemp.toNat ++ leBytes 4 x.topP.toNat ++ leBytes 1 x.topK ++
  leBytes 3 0 ++ leBytes 4 x.seed.toNat ++ List.replicate 16 0

/-- The row of a berth in a slot: its flags, NEW and TOKEN0. -/
def rowOf (m : Manifest) (chunks : List (Nat × Nat × Nat)) (b : Nat) (x : Berth) : Nat × Nat × Nat :=
  if x.st = .prefill then
    match chunks.find? (fun c => c.1 = b) with
    | some c => (3 + 4 * bit (decide (x.promptLen ≤ x.promptDone + c.2.2)), c.2.2, c.2.1)
    | none => (2, 0, 0)
  else if x.st = .decode then
    let act := decide (x.position ≤ 64 * x.nblk)
    match x.spec with
    | some t => (bit act + 8, (m.tnodes.drop t).headD 0, x.token0.toNat)
    | none => (bit act, 1, x.token0.toNat)
  else (0, 0, 0)

/-- The row of one slot is written (R277); an active one is remembered for its result. -/
def writeRow (m : Manifest) (step : Nat) (chunks : List (Nat × Nat × Nat)) (s : State) (slot : Nat) : State :=
  let a := m.stepRow (step % 2) slot
  match s.serve.berths.find? (fun p => p.2.slot = some slot && (p.2.st = .prefill || p.2.st = .decode)) with
  | none => s.writeStack a (leBytes 2 0 ++ leBytes 2 step ++ List.replicate 60 0)
  | some (b, x) =>
    let r := rowOf m chunks b x
    let s := s.writeStack a (rowBytes b step r.1 r.2.1 r.2.2 x)
    let s := s.setBerth b { x with new := r.2.1, held := x.held + 1 }
    if bitAt r.1 0 then { s with serve := { s.serve with rows := s.serve.rows ++ [(slot, b, step % 2)] } } else s

/-- Every row of the step is written. -/
def writeRows (m : Manifest) (step : Nat) (s : State) : State :=
  let r := (s.ordered (fun x => x.st = .prefill && x.slot.isSome) waitKey).foldl (giveChunk m step) (s, [])
  (List.range m.nslot).foldl (writeRow m step r.2) r.1

/-! ### Energy (R340, R341) -/

/-- A tenant's energy since the last window, in µJ, divided among its active rows in proportion to 64 × NBLK + NEW; what no row
receives is IDLE. A part of a µJ stays for the next window. -/
def tenantEnergy (s : State) (t : Nat) : State :=
  let all := tabGet s.power.energy t 0
  let e := all / unitsPerUj
  let mine := s.serve.rows.filterMap (fun r =>
    (s.berth r.2.1).bind (fun x => if x.tenant.toNat = t then some (r.2.1, 64 * x.nblk + x.new) else none))
  let total := (mine.map (·.2)).sum
  let given := (mine.map (fun p => e * p.2 / total)).sum
  let s := mine.foldl (fun s p => ledgerAdd (berthLedger p.1) (e * p.2 / total) s) s
  let s := { s with power := { s.power with energy := tabPut s.power.energy t (all % unitsPerUj) 0 } }
  ledgerAdd (0x1850000 + 16 * t + 8) (e - given) (ledgerAdd (0x1850000 + 16 * t) e s)

/-- The ledgers and UNATTR take what tides and silo transfers have spent since the last window. -/
def stepEnergy (s : State) : State :=
  let s := (s.power.energy.map (·.1)).foldl tenantEnergy s
  let s := s.berthIds.foldl berthSiloEnergy s
  let s := s.bump (kMb 0x38) (s.power.unattr / unitsPerUj)
  { s with power := { s.power with unattr := s.power.unattr % unitsPerUj } }

/-! ### The window (R277, R287) -/

/-- When the result rows of a tide's step are final: RESULT_NS after the boundary of RESULT_TIDE. -/
def State.resultAt (s : State) (m : Manifest) (c : Chart) (tide : Nat) : W64 :=
  s.tide.base - w64 (160 * c.period) - w64 (160 * c.period * (tide - m.resultTide)) + w64 m.resultNs

/-- The DECODE berths that a PARK waits for leave their slots at the step boundary (R299). -/
def leaveForPark (s : State) : State :=
  s.berthIds.foldl (fun s b =>
    match s.berth b with
    | some x => if x.st = .decode && x.cmd.isSome then berthReady b s else s
    | none => s) s

/-- The window of step `step`: results, slots, parks, then the rows of the next step unless their arming point has passed. The
berths that end leave their slots as their rows are processed, cancelled ones as their masks apply (`freeMasked`). -/
def prepare (m : Manifest) (step : Nat) (failed : List (Nat × Nat)) (s : State) : State :=
  let s := stepEnergy s
  let s := if s.serve.step = step then s.serve.rows.foldl (processRow m step failed) s else s
  let s := leaveForPark (s.berthIds.foldl (relink m) s)
  let s := s.waiters.foldl (serveWaiter m) s
  let s := autoUnpark m (autoPark m s)
  let late := m.stepAt (s.tideIdx.toNat + 1) = some (step + 1) && s.nextBnd.toNat ≤ s.now.toNat + 64
  let s := { s with serve := { s.serve with rows := [], step := step + 1 } }
  if late then s else writeRows m (step + 1) s

/-- PREP_WINDOW. `failed` names the berths with an output write that fails in this window, and how many tokens were written
before it. -/
def execPrepWindow (failed : List (Nat × Nat)) (s : State) : Res :=
  .next (match s.serve.manifest, s.tide.chart with
    | some m, some c =>
      if !s.chartRuns || !s.yeweric then s
      else match m.stepOf s.tideIdx.toNat with
        | none => s
        | some (step, tide) =>
          if tide < m.resultTide || s.serve.step = step + 1 then s
          else prepare m step failed (s.passTo (s.resultAt m c tide))
    | _, _ => s)

end Sys2Proof.Machine
end

