-- ==== Sys2Proof/Machine/Mirror.lean ====
section
/-! DEFINITION. Container mirroring, adoption and the arming of the lifeboat fill (R359 to R361, R364, R366). -/

namespace Sys2Proof.Machine

/-- An MIR_STATUS flag is set: 30 GAP, 31 PARTNER_LOST (R366, R425). -/
def mirEvent (b : Nat) (s : State) : State := (s.orReg (kMb 0x44) (2 ^ b)).note 174

/-- Consecutive copies that completed LOST. -/
def setMirLost (n : Nat) (s : State) : State := { s with serve := { s.serve with mirLost := n } }

/-- The partner is asked for a container (R360). -/
def askMirror (x : Berth) (s : State) : State :=
  s.emit (.message (BitVec.ofNat 16 (s.fieldAt (kMb 0x40) 16 16)) (.want s.homeEid x.tag x.tenant x.mpos))

/-- What a copy of container k comes to: the third that is lost in a row sets PARTNER_LOST, a refusal sets GAP, and MPOS advances
where the copy closes the run of mirrored containers (R359, R360). -/
def mirrorCopied (b k : Nat) (x : Berth) (refused lost : Bool) (s : State) : State :=
  if lost then
    let n := s.serve.mirLost + 1
    let s := setMirLost n s
    if n = 3 then mirEvent 31 s else s
  else
    let s := setMirLost 0 s
    if refused then mirEvent 30 s
    else if k = x.mpos then s.setBerth b { x with mpos := k + 1 } else s

/-- Container k of every layer group of a berth is copied to the partner: refused by its pool, lost on the way, or there
(R359, R360). The packets go to addresses that the partner chose, by messages of the Yeweric version (entry 24). -/
def execMirrorCopy (b k : Nat) (refused lost : Bool) (s : State) : Res :=
  .next (match s.berth b with
    | none => s
    | some x =>
      if !s.yeweric || s.fieldAt (kMb 0x40) 0 1 = 0 || 3 ≤ s.serve.mirLost || x.position ≤ 64 * (k + 1) then s
      else mirrorCopied b k x refused lost (askMirror x s))

/-- A write of MIR_CTRL, a whole-word register; a write of PARTNER restarts mirroring (R360, R366, R421). -/
def mirCtrlStore (f : W32 × W32) (s : State) : State :=
  let s := s.setReg (kMb 0x40) (mergeBits (s.reg (kMb 0x40)) (f.1, f.2 &&& 0xFFFF000F))
  if touches f 16 16 then
    let s := setMirLost 0 s
    s.berthIds.foldl (fun s b => match s.berth b with
      | some x => s.setBerth b { x with mpos := 0 }
      | none => s) s
  else s

/-- A write of MIR_CTRL.PARTNER. -/
def execMirPartnerWrite (data : W32) (s : State) : Res := .next (mirCtrlStore (writeForm (s.maskMode 8) true data) s)

/-- MIR_DROP. -/
def execMirDrop (origin : W16) (s : State) : Res := .next (mirRelease (fun m => m.origin = origin) s)

/-- A fetched container holds what its holder's container holds, which lies outside the module (entry 3). -/
def fetchInto (s : State) (c : W32) : State := s.scrambleStack (s.cidAddr c) s.stack.container

/-- The fetch of an adopted berth ends with `whole` leading containers fetched in every group: prefill goes on from there,
and the holder releases its record (R361). -/
def execAdoptFetchDone (b whole : Nat) (s : State) : Res :=
  .next (match s.serve.manifest, s.berth b with
    | some m, some x =>
      match x.adopting with
      | none => s
      | some most =>
        let n := min whole most
        let origin := BitVec.ofNat 16 (getBits (s.reg (kMb 0x4C)) 16 16)
        let holder := BitVec.ofNat 16 (getBits (s.reg (kMb 0x4C)) 0 16)
        let s := if holder = s.homeEid then mirRelease (Mirror.isOf origin x.tag x.tenant) s
          else s.emit (.message holder (.release origin x.tag x.tenant))
        match takeMany x.tenant (n * m.ngroup) s with
        | some (cs, s) =>
          let s := cs.foldl fetchInto s
          s.setBerth b { x with adopting := none, promptDone := 64 * n, position := 64 * n,
                                pages := if n = 0 then [] else addPages m.ngroup n [] cs }
        | none => s.setBerth b { x with adopting := none }
    | _, _ => s)

/-- A write of LB_CTRL: ARM in chart state NONE or REFUSED, DISARM before loading has begun (R366). -/
def lbCtrlStore (f : W32 × W32) (s : State) : State :=
  let s := if cmdBit f 0 && s.noChart then setLb 1 0 (s.setField (kMb 0x6C) 16 13 0) else s
  if cmdBit f 1 && s.fieldAt (kMb 0x6C) 0 4 = 1 then setLb 0 0 s else s

/-- LB_CTRL.ARM. -/
def execLbArm (s : State) : Res := .next (lbCtrlStore (1, 1) s)
/-- LB_CTRL.DISARM. -/
def execLbDisarm (s : State) : Res := .next (lbCtrlStore (2, 2) s)

end Sys2Proof.Machine
end

