-- ==== Sys2Proof/Machine/Units.lean ====
section
/-! DEFINITION. The disabled-unit map: retirement of quays, routers and ports, its record, and the PORT_DIST registers
(R21, R22, R350 to R355). -/

namespace Sys2Proof.Machine

/-- A DU_STATUS bit: 0 REJ, 1 BUSY, 2 PERSIST_ERR. -/
def duBit (b v : Nat) (s : State) : State := s.setField 0x274 b 1 v

/-- A DU_CMD is not accepted (R355, R425). -/
def duReject (s : State) : State := (duBit 0 1 s).note 170

/-- The lowest-numbered SPARE quay. -/
def State.lowestSpare (s : State) : Option Nat := (List.range 144).find? (fun q => s.qspare.getLsbD q)

/-- A map with one bit set or cleared. -/
def mapBit (m : BitVec 144) (q : Nat) (v : Bool) : BitVec 144 :=
  if v then m ||| BitVec.ofNat 144 (2 ^ q) else m &&& ~~~(BitVec.ofNat 144 (2 ^ q))

/-- A spare becomes ENABLED and passes through RESET and the tenant scrub (R110, R183, R352). -/
def enableSpare (q : Nat) (s : State) : State :=
  let s := { s with qen := mapBit s.qen q true, qspare := mapBit s.qspare q false,
                    silo := { s.silo with recQen := mapBit s.silo.recQen q true, recQspare := mapBit s.silo.recQspare q false } }
  let s := (tenantClears q s).zeroStack (stackAddr q 0 0) 0x60000
  s.setQuay q { s.quay q with st := .reset }

/-- Quay q is retired, and the lowest spare takes its place; berths and mirrors with a container there are lost (R352,
R353). -/
def retire (q : Nat) (s : State) : State :=
  let s := { s with qen := mapBit s.qen q false,
                    silo := { s.silo with recQen := mapBit s.silo.recQen q false, recQspare := mapBit s.silo.recQspare q false } }
  let s := match s.lowestSpare with
    | some n => enableSpare n s
    | none => s
  mirrorsLeave q (failLost s)

/-- The map has changed: PORT_DIST is recomputed, SEQ advances, and the record goes to the silo (R22, R352). -/
def mapChanged (s : State) : State :=
  let s := { s with distValid := false }
  (duBit 1 1 (s.setField 0x274 8 8 (s.fieldAt 0x274 8 8 + 1))).note 170

/-- Quay q may be retired. -/
def State.mayRetire (s : State) (q : Nat) : Bool := s.enabled q && (s.quay q).st.isStopped && s.fieldAt 0x274 1 1 = 0

/-- Port p is retired: EN is forced to 0 (R354). -/
def shutPort (p : Nat) (s : State) : State :=
  let s := { s with pbad := s.pbad ||| BitVec.ofNat 16 (2 ^ p) }
  enStore p 0 s

/-- RETIRE_QUAY. -/
def duQuay (q : Nat) (s : State) : State := if s.mayRetire q then mapChanged (retire q s) else duReject s

/-- RETIRE_ROUTER: the quay too, unless it is already RETIRED, and the ports attached to the router (R354). -/
def duRouter (r : Nat) (s : State) : State :=
  let gone := !s.qen.getLsbD r && !s.qspare.getLsbD r
  if if gone then s.fieldAt 0x274 1 1 = 0 else s.mayRetire r then
    let s := if gone then s else retire r s
    let s := { s with rbad := mapBit s.rbad r true }
    mapChanged ((List.range 16).foldl (fun s p => if portRouter p = r then shutPort p s else s) s)
  else duReject s

/-- RETIRE_PORT: accepted in any state. -/
def duPort (p : Nat) (s : State) : State := mapChanged (shutPort p s)

/-- A write of DU_CMD: a unit out of range is a reserved encoding (R355). -/
def duCmdStore (rq : Req) (f : W32 × W32) (s : State) : State :=
  let v := f.1 &&& f.2
  let op := getBits v 0 2
  let u := getBits v 8 8
  if op = 0 then s
  else if (if op = 3 then 16 else 144) ≤ u then s.regRsvd rq 0x270
  else if op = 1 then duQuay u s
  else if op = 2 then duRouter u s
  else duPort u s

/-- The DU_CMD word of an operation. -/
def duWord (op u : Nat) : W32 × W32 := (w32 (op + 256 * (u % 256)), 0xFF03)

/-- RETIRE_QUAY. -/
def execRetireQuay (q : Nat) (s : State) : Res := .next (duCmdStore .host (duWord 1 q) s)
/-- RETIRE_ROUTER. -/
def execRetireRouter (r : Nat) (s : State) : Res := .next (duCmdStore .host (duWord 2 r) s)
/-- RETIRE_PORT. -/
def execRetirePort (p : Nat) (s : State) : Res := .next (duCmdStore .host (duWord 3 p) s)

/-- The silo write of the record ends: the new record whole, or the old one and PERSIST_ERR (R352, R355). A read-only silo
takes no record (R380). -/
def execDuPersistDone (ok : Bool) (s : State) : Res :=
  .next (if s.fieldAt 0x274 1 1 = 0 then s
    else
      let s := duBit 1 0 s
      if ok && s.siloWritable then
        let s := { s with silo := { s.silo with savedQen := s.silo.recQen, savedQspare := s.silo.recQspare, savedRbad := s.rbad, savedPbad := s.pbad } }
        s.useFree.siloWrote 1 (Config.freeCount s.free)
      else (duBit 2 1 s).note 170)

/-- The repair table comes back from the silo: a column whose record fails its check is disabled, REPAIR_RESTORE is logged
and its entries are not in force (R125). PORT_DIST is recomputed where the map changes by it (R22). -/
def restoreRepairs (bad : BitVec 144) (s : State) : State :=
  let s := { s with
    stack := { s.stack with repairs := s.silo.savedRepairs.filter (fun r => !bad.getLsbD r.quay) },
    qen := s.qen &&& ~~~bad, qspare := s.qspare &&& ~~~bad,
    distValid := s.distValid && (s.qen ||| s.qspare) &&& bad = 0 }
  ((List.range 144).filter (fun q => bad.getLsbD q)).foldl (fun s _ => s.emit (.logged 0x77)) s

/-- The map of a boot: unusable quays are disabled, and the lowest-numbered usable SPAREs stand in for those that were enabled;
the record does not change (R351). -/
def bootMap (bad qen qspare : BitVec 144) : BitVec 144 × BitVec 144 :=
  let gone := (List.range 144).filter (fun q => (qen &&& bad).getLsbD q)
  let good := (List.range 144).filter (fun q => (qspare &&& ~~~bad).getLsbD q)
  (good.take gone.length).foldl (fun m q => (mapBit m.1 q true, mapBit m.2 q false)) (qen &&& ~~~bad, qspare &&& ~~~bad)

/-- The map and the slot directory as the boot finds them: with both copies of a record bad, SILO_REC and factory defaults (R350,
R370). -/
def bootRecords (f : BootFinds) (s : State) : State :=
  let s := if f.mapBad then
      let q := BitVec.ofNat 144 (2 ^ s.fuses.grade - 1)
      { s.slogPush 0xE6 255 0 with silo := { (s.slogPush 0xE6 255 0).silo with
          savedQen := q, savedQspare := ~~~q, savedRbad := 0, savedPbad := 0 } }
    else s
  let s := if f.slotsBad then
      { s.slogPush 0xE6 255 0 with silo := { (s.slogPush 0xE6 255 0).silo with slots := [], lost := s.silo.lost.map (fun _ => []) } }
    else s
  { s with qen := s.silo.savedQen, qspare := s.silo.savedQspare, rbad := s.silo.savedRbad, pbad := s.silo.savedPbad,
           silo := { s.silo with recQen := s.silo.savedQen, recQspare := s.silo.savedQspare } }

/-- Records restored: the map, the slots, the repair table, and spares in place of unusable quays (R125, R351, R370). -/
def restoreUnits (s : State) : State :=
  let f := Config.bootFinds s.free
  let s := bootRecords f s.useFree
  let m := bootMap (f.colBad ||| f.testBad) s.qen s.qspare
  { restoreRepairs f.colBad s with qen := m.1, qspare := m.2, distValid := false }

/-- PORT_DIST is valid again (R22). -/
def execPortDistRecomputeDone (s : State) : Res := .next { s with distValid := true }

end Sys2Proof.Machine
end

