-- ==== Sys2Proof/Machine/SiloCmds.lean ====
section
/-! DEFINITION. The silo controller's commands, its retention scrub and its failures (R371, R372, R377 to R382). -/

namespace Sys2Proof.Machine

/-- A silo command is not accepted: CMD_REJ, logged (R372). -/
def siloReject (code slot : Nat) (s : State) : State := (s.orReg (kSilo 0) 8).slogPush code slot 0

/-- A command runs: BUSY until it completes. -/
def siloBegin (op slot len : Nat) (crc : W32) (s : State) : State :=
  { s.setField (kSilo 0) 1 1 1 with silo := { s.silo with cmd := some (op, slot, len, crc) } }

/-- Extents [base, base + len) meet no slot. -/
def State.extentsFree (s : State) (base len : Nat) : Bool :=
  base + len ≤ extentCount &&
  s.silo.slots.all (fun p => p.2.st = .empty || decide (p.2.base + p.2.len ≤ base) || decide (base + len ≤ p.2.base))

/-- The lowest-addressed run of free extents: it begins at 0 or where a slot ends (R371). -/
def State.lowestRun (s : State) (len : Nat) : Option Nat :=
  listMin ((0 :: s.silo.slots.map (fun p => p.2.base + p.2.len)).filter (fun b => s.extentsFree b len))

/-- A slot kind of R371. -/
def kindOk (k : Nat) : Bool := 1 ≤ k && k ≤ 4

/-- CREATE (R371, R372). -/
def siloCreateCmd (slot kind len : Nat) (s : State) : State :=
  let pool := s.silo.slots.any (fun p => p.2.st = .pool || (p.2.kind = 3 && p.2.st != .empty))
  if (s.slotRec slot).st != .empty || !(1 ≤ len && len ≤ extentCount) || !kindOk kind || (kind = 3 && pool) then
    siloReject 0xE4 slot s
  else match s.lowestRun len with
    | none => siloReject 0xE2 slot s
    | some b =>
      siloBegin 1 slot 0 0 (s.setSlotRec slot
        { st := if kind = 3 then .pool else .opened, kind := kind, base := b, len := len, len1k := 0, crc := 0 })

/-- SEAL begins (R372). -/
def siloSealCmd (slot len1k : Nat) (crc : W32) (s : State) : State :=
  let x := s.slotRec slot
  if x.st = .opened && len1k * 1024 ≤ x.size then siloBegin 2 slot len1k crc s else siloReject 0xE4 slot s

/-- A running, armed or standby chart names a slot (R372). -/
def State.chartNames (s : State) (slot : Nat) : Bool :=
  let names := fun (c : Chart) => c.shards.any (fun (d : Shard) => !d.zero && d.slot = slot)
  (s.tide.chart.any names && !s.noChart) || s.tide.succ.any names

/-- A berth's image is in the POOL slot, or on its way. -/
def State.poolUsed (s : State) : Bool :=
  s.serve.berths.any (fun p => p.2.st = .parking || p.2.st = .parked || p.2.st = .unparking)

/-- ERASE begins: ERASING (R372). -/
def siloEraseCmd (slot : Nat) (s : State) : State :=
  let x := s.slotRec slot
  let ok := ((x.st = .opened || x.st = .sealed) && !s.chartNames slot) || (x.st = .pool && !s.poolUsed)
  if ok then siloBegin 3 slot 0 0 (s.setSlotRec slot { x with st := .erasing }) else siloReject 0xE4 slot s

/-- A write of SILO_CMD: 5 to 7 are reserved encodings; a read-only silo refuses every write (R372, R380, R382). -/
def siloCmdStore (rq : Req) (f : W32 × W32) (s : State) : State :=
  let op := getBits (f.1 &&& f.2) 0 3
  let slot := s.fieldAt (kSilo 8) 0 8
  if op = 0 then s
  else if 4 < op then s.regRsvd rq (kSilo 4)
  else if s.fieldAt (kSilo 0) 1 1 = 1 || s.fieldAt (kSilo 0) 0 1 = 0 then siloReject 0xE4 slot s
  else if !s.siloWritable then siloReject 0xE3 slot s
  else if op = 1 then siloCreateCmd slot (s.fieldAt (kSilo 8) 8 4) (s.reg (kSilo 0xC)).toNat s
  else if op = 2 then siloSealCmd slot (s.reg (kSilo 0xC)).toNat (s.reg (kSilo 0x10)) s
  else if op = 3 then siloEraseCmd slot s
  else siloBegin 4 slot 0 0 s

/-- CREATE. -/
def execSiloCreate (s : State) : Res := .next (siloCmdStore .host (1, 7) s)
/-- SEAL. -/
def execSiloSeal (s : State) : Res := .next (siloCmdStore .host (2, 7) s)
/-- ERASE. -/
def execSiloErase (s : State) : Res := .next (siloCmdStore .host (3, 7) s)
/-- SAVE_REPAIR. -/
def execSiloSaveRepair (s : State) : Res := .next (siloCmdStore .host (4, 7) s)

/-- A record is written by the controller: its bytes count in INT_WR and are free (R377, entry 3). -/
def State.recordWrote (s : State) : State := s.useFree.siloWrote 1 (Config.freeCount s.free)

/-- SEAL ends: SEALED where the CRC of the data read back matches (R372). -/
def sealEnd (slot len1k : Nat) (crc : W32) (s : State) : State :=
  let x := s.slotRec slot
  if s.badPage x.addr (len1k * 1024) then (s.slogPush 0xE0 slot x.addr).slogPush 0xE5 slot x.addr
  else if crc32c (s.silo.mem.read x.addr (len1k * 1024)) = crc then
    (s.setSlotRec slot { x with st := .sealed, len1k := len1k, crc := crc }).recordWrote
  else s.slogPush 0xE5 slot x.addr

/-- ERASE ends: EMPTY, the extents free. -/
def eraseEnd (slot : Nat) (s : State) : State :=
  let x := s.slotRec slot
  let s := { s with silo := { s.silo with
    mem := s.silo.mem.clear x.addr x.size, pool := if x.kind = 3 then [] else s.silo.pool,
    badPages := s.silo.badPages.filter (fun p => !(decide (x.addr ≤ p) && decide (p < x.addr + x.size))) } }
  s.setSlotRec slot SiloSlot.init

/-- What a command has done when it completes; each but a SEAL that failed writes a record, the slot directory's or the repair
table's, which a read-only silo refuses (R370, R372, R380). -/
def siloCmdEffect (op slot len : Nat) (crc : W32) (s : State) : State :=
  if op = 2 then sealEnd slot len crc s
  else if op = 3 then (eraseEnd slot s).recordWrote
  else if op = 4 then
    if s.siloWritable then { s with silo := { s.silo with savedRepairs := s.stack.repairs } }.recordWrote else s
  else s.recordWrote

/-- A command completes: its effect, BUSY cleared, DONE set (R372, R425). -/
def execSiloCmdDone (s : State) : Res :=
  .next (match s.silo.cmd with
    | none => s
    | some (op, slot, len, crc) =>
      let s := siloCmdEffect op slot len crc s
      let s := { s with silo := { s.silo with cmd := none } }
      ((s.setField (kSilo 0) 1 1 0).orReg (kSilo 0) 4).note 168)

/-- A retention pass starts DAYS after the last one began, in A0, A1, S1 or S2 (R379). -/
def execSiloScrubPass (s : State) : Res :=
  .next (let st := s.power.st
    if s.fieldAt (kSilo 0x50) 8 1 = 0 && (st = .a0 || st = .a1 || st = .s1 || st = .s2) then
      let s := s.passTo (s.silo.passAt + w64 (s.fieldAt (kSilo 0x50) 0 8 * 86400000000000))
      { s.setField (kSilo 0x50) 8 1 1 with silo := { s.silo with passAt := s.now } }
    else s)

/-- The pass has read every programmed page; what it rewrote counts in INT_WR and is free (R379, entry 3). -/
def execSiloScrubPassEnd (s : State) : Res :=
  .next (if s.fieldAt (kSilo 0x50) 8 1 = 1 then
      (s.setField (kSilo 0x50) 8 1 0).useFree.siloWrote 1 (Config.freeCount s.free)
    else s)

/-- The parking berth whose image takes a silo address, while its containers are not released (R376). -/
def State.parkingAt (s : State) (a : Nat) : Option Nat :=
  (s.serve.berths.find? (fun p => p.2.st = .parking && !p.2.containers.isEmpty && p.2.park.any (fun e =>
    s.poolSlot.any (fun x => decide (x.addr + e * extentBytes ≤ a) && decide (a < x.addr + (e + 1) * extentBytes))))).map (·.1)

/-- A park for sleep entry that meets a failed program fails its berth with SILO_UE; its place is free (R323). -/
def parkProgFail (a : Nat) (s : State) : State :=
  match if s.power.st = .entering then s.parkingAt a else none with
  | none => s
  | some b =>
    match s.berth b with
    | some x => berthFail b 0xE0 ((freeExtents x.park s).setBerth b { x with park := [] })
    | none => s

/-- A program or erase failure retires a block; `sparePct` is what is left of the spare blocks (R380). -/
def execSiloProgFail (sparePct : Byte) (address : W64) (s : State) : Res :=
  .next (let a := fld address.toNat 0 42
    let slot := ((s.slotAt a 1).map (·.1)).getD 255
    let s := parkProgFail a (s.slogPush 0xE1 slot a)
    let s := s.useFree.siloWrote 1 (Config.freeCount s.free)
    let s := s.setField (kSilo 0x50) 16 8 sparePct.toNat
    let s := if sparePct.toNat < 10 && s.fieldAt (kSilo 0) 7 1 = 0 then (s.setField (kSilo 0) 7 1 1).slogPush 0xE7 255 0 else s
    if sparePct.toNat = 0 && s.fieldAt (kSilo 0) 8 1 = 0 then (s.setField (kSilo 0) 8 1 1).slogPush 0xE3 255 0 else s)

/-- SLOG_POP. -/
def execSlogPop (s : State) : Res := .next { s with siloLog := s.siloLog.drop 1 }

end Sys2Proof.Machine
end

