-- ==== Sys2Proof/Machine/Trust.lean ====
section
/-! DEFINITION. Signed firmware, owner keys, the one-time fuses and the debug lock (R392 to R394, R397, R398). -/

namespace Sys2Proof.Machine

/-- Trust events: 1 DONE, 2 TRUST_REJ, 3 FW_SIG (R398, R425). -/
def trustEvent (b : Nat) (s : State) : State := (s.orReg 0x304 (2 ^ b)).note 169

/-! ### Firmware copies (R393) -/

/-- Header fields of a firmware copy: VERSION, SVN, LENGTH and the signature, each word of 4 bytes in the order R393 names
them (entry 31). -/
def fwField (b : List Byte) (i : Nat) : Nat := leAt b (4 * i) 4

/-- The bytes that the signature covers. -/
def fwSigned (b : List Byte) : List Byte := b.take 16 ++ List.replicate 96 0 ++ (b.drop 112).take (144 + fwField b 3)

/-- A copy is well-formed and its signature verifies under the Barxia key. -/
def fwVerifies (b : List Byte) : Bool :=
  fwField b 0 = 0x4657494D && fwField b 2 ≤ 63 && zeros b 112 255 && decide (256 + fwField b 3 ≤ b.length) &&
  Config.ecdsaVerify Config.rootKey (fwSigned b) (slice b 16 96)

/-- The data of a sealed slot, at most one firmware copy's region of 64 MiB. -/
def State.slotData (s : State) (x : SiloSlot) : List Byte := s.silo.mem.read x.addr (min (x.len1k * 1024) 0x4000000)

/-- INSTALL_FW is accepted: a SEALED HOST slot with a copy that verifies and whose SVN is high enough. -/
def State.fwAcceptable (s : State) (slot : Nat) : Bool :=
  let x := s.slotRec slot
  let b := s.slotData x
  x.st = .sealed && x.kind = 4 && !s.badPage x.addr b.length && fwVerifies b && decide (s.fuses.svnMin ≤ fwField b 2)

/-- The copy not running becomes the slot's. -/
def installFw (slot : Nat) (s : State) : State :=
  let b := s.slotData (s.slotRec slot)
  let f : Firmware := { version := w32 (fwField b 1), svn := fwField b 2, ok := true }
  let s := { s with silo := if s.silo.runB then { s.silo with fwA := f } else { s.silo with fwB := f } }
  s.siloWrote 1 (256 + fwField b 3)

/-! ### Keys (R392, R394) -/

/-- The prime of P-384 (FIPS 186-5). -/
def p384 : Nat := 2 ^ 384 - 2 ^ 128 - 2 ^ 96 + 2 ^ 32 - 1
/-- The constant term of the curve. -/
def p384b : Nat :=
  0xb3312fa7e23ee7e4988e056be3f82d19181d9c6efe8141120314088f5013875ac656398d8a2ed19d2a85c8edd3ec2aef

/-- A big-endian byte string as a number. -/
def beNat (b : List Byte) : Nat := b.foldl (fun n x => 256 * n + x.toNat) 0

/-- 97 bytes are an uncompressed P-384 public key: 0x04, then a point of the curve. -/
def isKey (b : List Byte) : Bool :=
  let x := beNat ((b.drop 1).take 48)
  let y := beNat ((b.drop 49).take 48)
  leAt b 0 1 = 4 && decide (x < p384) && decide (y < p384) && (y * y) % p384 = (x * x * x + (p384 - 3) * x + p384b) % p384

/-- The first 97 bytes of a slot. -/
def State.keyIn (s : State) (slot : Nat) : List Byte := s.silo.mem.read (s.slotRec slot).addr 97

/-- The owner hash of a key index is burned. -/
def State.keyBurned (s : State) (k : Nat) : Bool := (tabFind s.fuses.ownerHash k).isSome

/-- A fuse operation is armed: within 1 ms of the TRUST_ARM write. -/
def State.trustArmed (s : State) : Bool := s.silo.trustArm.any (fun t => decide (s.now.toNat ≤ t.toNat + 1000000))

/-- An operation is accepted (R394). -/
def State.trustOk (s : State) (op slot k : Nat) : Bool :=
  s.fieldAt 0x304 0 1 = 0 &&
  (if op = 1 then s.fwAcceptable slot && s.siloWritable
   else s.trustArmed &&
     (if op = 2 then !s.keyBurned k && (s.slotRec slot).st != .empty && !s.badPage (s.slotRec slot).addr 97 && isKey (s.keyIn slot)
      else if op = 3 then s.keyBurned k
      else decide (s.fuses.svnMin < s.firmware.svn)))

/-- Where an operation of its own reads a slot whose page stays uncorrectable, the silo logs SILO_UE (R380). -/
def trustReadUe (op slot : Nat) (s : State) : State :=
  let x := s.slotRec slot
  let n := if op = 1 then (s.slotData x).length else if op = 2 then 97 else 0
  if s.fieldAt 0x304 0 1 = 0 && x.st != .empty && s.badPage x.addr n then s.slogPush 0xE0 slot x.addr else s

/-- A write of TRUST_CMD: 5 to 7 are reserved encodings (R398). -/
def trustCmdStore (rq : Req) (f : W32 × W32) (s : State) : State :=
  let v := f.1 &&& f.2
  let op := getBits v 0 3
  if op = 0 then s
  else if 4 < op then s.regRsvd rq 0x308
  else if s.trustOk op (getBits v 8 8) (getBits v 6 2) then
    { s.setField 0x304 0 1 1 with silo := { s.silo with trustCmd := some (op, getBits v 8 8, getBits v 6 2) } }
  else trustEvent 2 (trustReadUe op (getBits v 8 8) s)

/-- The TRUST_CMD word of an operation. -/
def trustWord (op slot k : Nat) : W32 × W32 := (w32 (op + 64 * k + 256 * slot), 0xFFC7)

/-- INSTALL_FW. -/
def execInstallFw (slot : Byte) (s : State) : Res := .next (trustCmdStore .host (trustWord 1 slot.toNat 0) s)
/-- INSTALL_KEY. -/
def execInstallKey (slot : Byte) (keyidx : BitVec 2) (s : State) : Res :=
  .next (trustCmdStore .host (trustWord 2 slot.toNat keyidx.toNat) s)
/-- REVOKE_KEY. -/
def execRevokeKey (keyidx : BitVec 2) (s : State) : Res := .next (trustCmdStore .host (trustWord 3 0 keyidx.toNat) s)
/-- RAISE_SVN. -/
def execRaiseSvn (s : State) : Res := .next (trustCmdStore .host (trustWord 4 0 0) s)

/-- What an operation does. -/
def trustEffect (op slot k : Nat) (s : State) : State :=
  if op = 1 then installFw slot s
  else if op = 2 then
    let key := s.keyIn slot
    let s := { s with fuses := { s.fuses with ownerHash := tabSet s.fuses.ownerHash k (Config.sha384 key) } }
    if s.siloWritable then { s with silo := { s.silo with keys := tabSet s.silo.keys k key } }.recordWrote else s
  else if op = 3 then { s with fuses := { s.fuses with revoke := s.fuses.revoke ||| BitVec.ofNat 4 (2 ^ k) } }
  else { s with fuses := { s.fuses with svnMin := s.firmware.svn } }

/-- The operation finishes: BUSY cleared, DONE set. -/
def execTrustCmdDone (s : State) : Res :=
  .next (match s.silo.trustCmd with
    | none => s
    | some (op, slot, k) =>
      let s := trustEffect op slot k s
      trustEvent 1 ({ s with silo := { s.silo with trustCmd := none } }.setField 0x304 0 1 0))

/-- A write of TRUST_ARM: 0x0000_7A57 arms a fuse operation for 1 ms. -/
def trustArmStore (data : W32) (s : State) : State :=
  if data = 0x7A57 then { s with silo := { s.silo with trustArm := some s.now } } else s

/-- TRUST_ARM. -/
def execTrustArmWrite (data : W32) (s : State) : Res := .next (trustArmStore data s)

/-! ### Locks (R397, R423) -/

/-- A write of DEBUG_LOCK: the first that stores locks; a level below DEBUG_FLOOR, or 3, is a reserved encoding. -/
def debugLockStore (rq : Req) (f : W32 × W32) (s : State) : State :=
  if getBits f.2 0 2 = 0 then s
  else if s.locked.contains 0x310 then s.hostErr rq 0xC8 0 0x310
  else
    let v := getBits (mergeBits (w32 s.debugLevel) f) 0 2
    if v = 3 || v < s.fuses.debugFloor then s.regRsvd rq 0x310
    else { s.setField 0x310 0 2 v with locked := 0x310 :: s.locked }

/-- A write of DEBUG_LOCK. -/
def execDebugLockWrite (rq : Req) (data : W32) (s : State) : Res :=
  .next (debugLockStore rq (writeForm (s.maskMode 0) false data) s)

/-- A write of TRUST_CTRL: the first that stores locks. -/
def trustCtrlStore (rq : Req) (f : W32 × W32) (s : State) : State :=
  if getBits f.2 0 1 = 0 then s
  else if s.locked.contains 0x300 then s.hostErr rq 0xC8 0 0x300
  else { s.setField 0x300 0 1 (getBits f.1 0 1) with locked := 0x300 :: s.locked }

end Sys2Proof.Machine
end

