-- ==== Sys2Proof/Machine/Stillwater.lean ====
section
/-! DEFINITION. The Stillwater bit and slack-water sync (R309 to R319). -/

namespace Sys2Proof.Machine

/-! ### SW_CTRL and SW_STATUS (R310, R318) -/

/-- SW_CTRL.SW may change: no chart, every enabled quay stopped, no armed sync (R310). -/
def State.swMayChange (s : State) : Bool := s.noChart && s.allStopped && s.fieldAt (kTb 0x44) 1 1 = 0

/-- The operating point that a value of SW asks for (R310, R311, R335). -/
def State.swTarget (s : State) (sw : Bool) : Nat := if sw then s.swPoint else s.planPoint

/-- A change of SW begins: PENDING. VCORE moves first; where it falls, the clock is lowered before it (R310, R330). -/
def swBegin (sw : Bool) (s : State) : State :=
  let s := s.setField 0x84 1 1 1
  let v := s.pointMv (s.swTarget sw) sw
  if v < (s.rail 0).target then s.runPoint (s.swTarget sw) sw else s.railTo 0 v

/-- A write of SW_CTRL: one that would change SW where it may not stores nothing (R310). -/
def swCtrlStore (f : W32 × W32) (s : State) : State :=
  let v := mergeBits (s.reg 0x80) f
  let sw := getBits v 0 1
  let changes := touches f 0 1 && sw != s.fieldAt 0x80 0 1
  if changes && !s.swMayChange then s.orReg 0x84 0x80
  else
    let s := (s.setField 0x80 0 1 sw).setField 0x80 2 6 (getBits v 2 6)
    if changes then swBegin (sw = 1) s else s

/-- SW_WRITE. -/
def execSwWrite (data : W32) (s : State) : Res := .next (swCtrlStore (writeForm (s.maskMode 0) false data) s)

/-- The highest point from p down that the acknowledged VCORE supports (R330). -/
def State.pointFrom (s : State) (p : Nat) (sw : Bool) : Option Nat :=
  (List.range 8).find? (fun i => decide (p ≤ i) && s.pointOn i && decide (s.pointMv i sw ≤ (s.rail 0).mv))

/-- VCORE is at its target: the clock changes, ACTIVE takes SW, PENDING clears, and alignment has ended (R310, R316). -/
def execSwChangeDone (s : State) : Res :=
  .next (if s.fieldAt 0x84 1 1 = 1 && (s.rail 0).mv = (s.rail 0).target && (s.rail 0).step.isNone then
      let sw := s.fieldAt 0x80 0 1
      let s := match s.pointFrom (s.swTarget (sw = 1)) (sw = 1) with
        | some p => s.runPoint p (sw = 1)
        | none => s
      ((s.setField 0x84 0 1 sw).setField 0x84 1 1 0).endAlign
    else s)

/-! ### Slack-water sync (R314, R315, R319) -/

/-- SWS_STATUS.ARMED. -/
def State.swsArmed (s : State) : Bool := s.fieldAt (kTb 0x44) 1 1 = 1

/-- The sync at a stage. -/
def swsTo (st : SwsStage) (s : State) : State := { s with fabric := { s.fabric with sws := st } }

/-- ARM is accepted (R315). -/
def State.swsArmOk (s : State) : Bool :=
  let at' := s.pair (kTb 0x48)
  s.noChart && s.fieldAt 0x84 1 1 = 0 && !s.swsArmed && at'.toNat % 50 = 0 && decide (s.now.toNat + 10000 ≤ at'.toNat)

/-- ARM: the edge of SWS_AT is taken, or CFG_REJ (R315). -/
def swsArmNow (s : State) : State :=
  if s.swsArmOk then
    { s.setField (kTb 0x44) 1 1 1 with fabric := { s.fabric with sws := .off, swsAt := s.pair (kTb 0x48) } }
  else s.orReg (kTb 0x44) 0x20

/-- DISARM, in time only (R315). -/
def swsDisarmNow (s : State) : State :=
  if s.swsArmed && s.fabric.sws = .off && decide (s.now.toNat + 2000 < s.fabric.swsAt.toNat) then s.setField (kTb 0x44) 1 1 0
  else s

/-- A write of SWS_CTRL: ARM, then DISARM. -/
def swsCtrlStore (f : W32 × W32) (s : State) : State :=
  let s := if cmdBit f 0 then swsArmNow s else s
  if cmdBit f 1 then swsDisarmNow s else s

/-- SWS_CTRL.ARM. -/
def execSwsArm (s : State) : Res := .next (swsCtrlStore (1, 3) s)
/-- SWS_CTRL.DISARM. -/
def execSwsDisarm (s : State) : Res := .next (swsCtrlStore (2, 3) s)

/-- The armed sync has failed with a cause (R315, R425). -/
def swsFail (cause : Nat) (s : State) : State :=
  ((((s.setField (kTb 0x44) 1 1 0).setField (kTb 0x44) 6 2 cause).orReg (kTb 0x44) 0x10)).note 167

/-- The next action of an armed sync, at a time relative to its edge, after the stage that comes before it (R314). -/
def swsAction (before : SwsStage) (ahead behind : Nat) (act : State → State) (s : State) : State :=
  if s.swsArmed && s.fabric.sws = before then act (s.passTo (s.fabric.swsAt - w64 ahead + w64 behind)) else s

/-- SWS_AT − 2,000 ns: ingress closes, or the sequence is skipped (R314, R315). -/
def execSwsClose (s : State) : Res :=
  .next (swsAction .off 2000 0 (fun s => if s.tbState = 2 then swsTo .closed s else swsFail 1 s) s)

/-- No enabled quay in RUN or DRAINING, and no packet on the mesh or the transit ring (R314). -/
def State.quiet (s : State) : Bool :=
  (List.range 144).all (fun q => !s.enabled q || ((s.quay q).st != .run && (s.quay q).st != .draining)) &&
  s.fabric.mesh.isEmpty

/-- SWS_AT − 1,000 ns: the quiet check. -/
def execSwsQuietCheck (s : State) : Res :=
  .next (swsAction .closed 1000 0 (fun s => swsTo (if s.quiet then .quiet else .busy) s) s)

/-- SWS_AT: the dividers restart on the tclk edge, so that qclk are counted from it. -/
def execSwsDividerRestart (s : State) : Res :=
  .next (swsAction .quiet 0 0 (fun s => swsTo .restarted { s with time := { s.time with frac := 0, aclk := s.fabric.swsAt.toNat % 10 } }) s)

/-- SWS_AT + 50 ns: the crossing FIFOs reset their pointers. -/
def execSwsFifoReset (s : State) : Res := .next (swsAction .restarted 0 50 (swsTo .fifos) s)

/-- SWS_AT + 100 ns: every port that is UP sends a marker flit. -/
def execSwsMarkerSend (s : State) : Res :=
  .next (swsAction .fifos 0 100 (fun s =>
    swsTo .marked (((List.range 16).filter (fun p => (s.port p).st = .up)).foldl (fun s p => s.emit (.marker p)) s)) s)

/-- A port has a fixed link latency (R314, R316). -/
def fixLatency (s : State) (p : Nat) : State :=
  if (s.port p).st = .up then s.setField (kTb 0x44) (16 + p) 1 1 else s

/-- SWS_AT + 600 ns: the receivers of the ports that exchanged markers fix their release latencies; a port that has come UP since
then realigns by itself (R316). -/
def execSwsLatencyFix (s : State) : Res :=
  .next (swsAction .marked 0 600 (fun s =>
    let ps := (List.range 16).filter (fun p => decide ((s.port p).upAt.toNat ≤ s.fabric.swsAt.toNat + 100))
    swsTo .fixed (ps.foldl fixLatency s)) s)

/-- The sync ends well: ALIGNED and DONE. -/
def swsDone (s : State) : State :=
  (((s.setField (kTb 0x44) 0 1 1).setField (kTb 0x44) 1 1 0).orReg (kTb 0x44) 8).note 167

/-- SWS_AT + 1,000 ns: ingress reopens and the outcome is shown. -/
def execSwsReopen (s : State) : Res :=
  .next (if s.fabric.sws = .busy then
      swsAction .busy 0 1000 (fun s => releaseAll (swsFail 2 (swsTo .off s))) s
    else swsAction .fixed 0 1000 (fun s => releaseAll (swsDone (swsTo .off s))) s)

/-- A port back in UP realigns at the first multiple of 50 ns at least 1 µs later (R316). -/
def execPortRealign (p : Nat) (s : State) : Res :=
  .next (if (s.port p).st = .up && s.fieldAt (kTb 0x44) (16 + p) 1 = 0 then
      fixLatency ((s.passTo (w64 (50 * ceilDiv ((s.port p).upAt.toNat + 1000) 50))).emit (.marker p)) p
    else s)

end Sys2Proof.Machine
end

