-- ==== Sys2Proof/Machine/Reset.lean ====
section
/-! DEFINITION. What a module reset, a power loss and a sleep leave of the module (R320, R373, R376, R378, R383, R436,
R447, R452 to R454). -/

namespace Sys2Proof.Machine

/-- A register that keeps its value through a module reset (R447, R453). -/
def keptKey (k : Nat) : Bool := k = 0x14 || (0x1E00000 ≤ k && k < 0x1E10000)

/-- A 64-bit counter or stamp that keeps its value: the always-on block, and the silo counters of the records. -/
def keptPair (k : Nat) : Bool := (0x1E00000 ≤ k && k < 0x1E10000) || (kSilo 0x30 ≤ k && k < kSilo 0x48)

/-- What the records of the silo give registers that are otherwise at their reset values: ageing offsets and disabled
points (R343), spare blocks and the flags that follow from wear (R377, R380). -/
def recordRegs (old : State) (s : State) : State :=
  let s := s.setReg (kBw 0x28) old.silo.savedAge.1
  let s := s.setField (kBw 0x24) 16 8 old.silo.savedAge.2.toNat
  let s := s.setField (kSilo 0x50) 16 8 (old.fieldAt (kSilo 0x50) 16 8)
  s.setField (kSilo 0) 6 3 (old.fieldAt (kSilo 0) 6 3)

/-- The silo controller starts over: no command runs, the bucket is full (R378). -/
def siloBlank (x : Silo) : Silo :=
  { x with cmd := none, trustCmd := none, trustArm := none, bucket := Silo.init.bucket, bucketAt := 0, passAt := 0,
           recQen := x.savedQen, recQspare := x.savedQspare }

/-- The breakwater starts over, with the calibration set of the silo in force (R346) and the wake latches kept. -/
def powerBlank (x : Power) : Power :=
  { Power.init with latches := x.latches, calLive := x.calNext.getD x.calLive, coolSince := x.coolSince }

/-- The module with every register that R447 does not list at its reset value, and every unit outside the always-on
island and the silo's NAND started over. The disabled-unit map is the record's (R351); no quay has a tenant (R383). Logs but
the wake log are empty, locks and latches are kept for the callers to clear. -/
def blank (s : State) : State :=
  recordRegs s
    { State.reset with
      regs := s.regs.filter (fun p => keptKey p.1), c64 := s.c64.filter (fun p => keptPair p.1), locked := s.locked,
      silo := siloBlank s.silo, power := powerBlank s.power, board := s.board, fuses := s.fuses, qen := s.silo.savedQen,
      qspare := s.silo.savedQspare, rbad := s.silo.savedRbad, pbad := s.silo.savedPbad, wakeLog := s.wakeLog, out := s.out,
      free := s.free, pending := s.pending }

/-- RESET_CAUSE names the reset, unless a reset in progress is restarted (R441, R453). -/
def resetCause (bit : Nat) (s : State) : State := if s.board.inReset then s else s.setReg 0x14 (w32 (2 ^ bit))

/-- The always-on registers that a module reset does clear: TRIP_LATCH, and the fields of a transition (R349). -/
def aonReset (s : State) : State :=
  (((s.setField (kAon 4) 5 1 0).setField (kAon 4) 16 8 0).setField (kAon 4) 24 3 0)

/-- The board in a module reset: pins at their reset functions (R458), the PCIe link down, the boot still to run. -/
def boardReset (b : Board) : Board :=
  { b with pins := [], strobe := 0, msixOn := false, booted := false, inReset := true, tapDenied := false }

/-- A module reset (R453). The stack stays powered: its bytes, its repair table and the chart buffers are left as they
are. -/
def moduleReset (bit : Nat) (s : State) : State :=
  let st := blank (aonReset (resetCause bit s))
  { st with stack := { Stack.init with mem := s.stack.mem, logbook := s.stack.logbook, ecc := s.stack.ecc, repairs := s.stack.repairs },
            chartBuf := s.chartBuf, locked := [], board := boardReset s.board,
            silo := { st.silo with pool := [] } }

/-- Slots that are OPEN. -/
def State.openSlots (s : State) : List Nat := (s.silo.slots.filter (fun p => p.2.st = .opened)).map (·.1)

/-- Bytes that a channel was writing into the silo hold any mixture of old and new (R373, entry 3). -/
def scrambleSilo (s : State) (c : Nat) : State :=
  match (s.chan c).moving with
  | some (3, a, n) =>
    { s with silo := { s.silo with mem := s.silo.mem.write a ((List.range n).map (fun i => Config.freeByte (s.free + i))) },
             free := s.free + n }
  | _ => s

/-- The silo loses power (R373). -/
def siloPowerLoss (s : State) : State :=
  let s := (List.range 16).foldl scrambleSilo s
  let open' := s.openSlots
  { s with silo := { s.silo with lost := some (match s.silo.lost with
      | some l => l ++ open'.filter (fun n => !l.contains n)
      | none => open') } }

/-- The rails fall: everything outside the always-on island and the silo's NAND is lost; memory reads as after power-on
(R454, entry 2). -/
def railsLost (s : State) : State :=
  let s := siloPowerLoss s
  let t := blank (aonReset s)
  { t with locked := [], board := { boardReset s.board with pwrGood := false, inReset := false, pins := s.board.pins },
           silo := { t.silo with pool := [] } }

/-- The always-on island loses power too (R447, R451). -/
def islandLost (s : State) : State :=
  { s with regs := s.regs.filter (fun p => !keptKey p.1), c64 := s.c64.filter (fun p => !(keptPair p.1 && decide (0x1E00000 ≤ p.1))),
           wakeLog := [], power := { s.power with latches := [], coolSince := none }, board := { s.board with pins := [] } }

end Sys2Proof.Machine
end

