-- ==== Sys2Proof/Machine/Power.lean ====
section
/-! DEFINITION. Power states: commands, entry, wakes, exit, tide-idle gating and the thermal trip (R320 to R328, R339). -/

namespace Sys2Proof.Machine

/-! ### Conditions and parks (R322, R323) -/

/-- A logbook load or a calibration command is in progress (R322). -/
def State.powerBusy (s : State) : Bool :=
  s.power.calCmd.isSome || (List.range 16).any (fun c => (s.chan c).moving.any (fun m => m.1 = 1))

/-- A0 or A1 may go to a sleep state (R322). -/
def State.maySleep (s : State) : Bool :=
  s.noChart && s.allStopped && s.fieldAt 0x84 1 1 = 0 && !s.swsArmed && !s.powerBusy

/-- TRIP may be left: both dies have been 10 °C below their trip points for 100 ms (R339). -/
def State.mayLeaveTrip (s : State) : Bool :=
  match s.power.coolSince with
  | some t => decide (100000000 ≤ s.now.toNat - t.toNat)
  | none => false

/-- A berth with containers parks by command, or fails where the silo has no place (R323). -/
def parkForSleep (s : State) (b : Nat) : State :=
  match s.berth b with
  | some x =>
    if (x.st = .ready || x.st = .decode || x.st = .prefill) && !x.containers.isEmpty then
      match parkStart b x none s with
      | some s => s
      | none => berthFail b (if s.siloWritable then 0xDA else 0xE3) s
    else s
  | none => s

/-- Step 1 of an entry into S2 or S3. -/
def parkAll (s : State) : State := s.berthIds.foldl parkForSleep s

/-! ### Entry (R320, R323) -/

/-- A quay as R320 leaves it in sleep, but for the serials of its gantries, which only a module reset restarts (R253). -/
def Quay.asleep (x : Quay) (st : QState) : Quay := { Quay.init with st := st, serial0 := x.serial0, serial1 := x.serial1 }

/-- A quay whose domain is gated off: its state and every register are lost (R320). -/
def quayLost (s : State) (q : Nat) : State :=
  let s := { s with regs := tabClear s.regs (qkey q 0) 0x10000, c64 := tabClear s.c64 (qkey q 0) 0x10000,
                    latch := s.latch.filter (fun p => !(decide (qkey q 0 ≤ p.1 % 2 ^ 34) && decide (p.1 % 2 ^ 34 < qkey q 0x10000))),
                    staged := tabClear s.staged (qkey q 0) 0x10000 }
  s.setQuay q ((s.quay q).asleep .reset)

/-- Bytes of a space of the stack are lost: they read as after power-on (entry 2). -/
def spaceLost (sp : Nat) (s : State) : State :=
  { s with stack := { s.stack with
      mem := s.stack.mem.filter (fun m => saSpace m.1 != sp),
      ecc := s.stack.ecc.filter (fun m => !(decide (m.1 < 2 ^ 40) && saSpace m.1 = sp)) } }

/-- Aprons, logbooks and every quay are lost (R320, row S1). -/
def quaysLost (s : State) : State :=
  let s := (List.range 144).foldl quayLost s
  let s := spaceLost 0 s
  { s with stack := { s.stack with logbook := [], ecc := s.stack.ecc.filter (fun m => decide (m.1 < 2 ^ 40)) } }

/-- A berth's containers are lost with the context store (R323). -/
def containersLost (s : State) (b : Nat) : State :=
  match s.berth b with
  | some x =>
    berthEmptied b (s.setBerth b { x with pages := [], spill := [], tree := [], zeroing := [], releaseAt := none })
  | none => s

/-- The context store is powered down: its bytes, tags, containers and mirrors are lost (R320, row S2). -/
def contextLost (s : State) : State :=
  let s := spaceLost 2 s
  let s := { s with stack := { s.stack with tags := [], zero := [] }, serve := { s.serve with used := [], mirrors := [] } }
  s.berthIds.foldl containersLost s

/-- A port enters OFF for S2 and forgets what it has learned (R320, R323). -/
def portOff (s : State) (p : Nat) : State :=
  let s := if (s.port p).st = .off then s else portAway p .off s
  s.setPort p { s.port p with fromSeeds := true, lpi := false }

/-- A port in UP enters low-power idle (R323, R324). -/
def portLpi (s : State) (p : Nat) : State :=
  if (s.port p).st = .up then s.setPort p { s.port p with lpi := true } else s

/-- Rails of the context store off, or every rail of S3 (R329). -/
def railOff (r : Nat) (s : State) : State := s.setRail r { mv := 0, target := 0, step := none }

/-- A rail of the module's regulators goes off, or to the voltage that a sleep state gives it. -/
def railsOff (rs : List Nat) (s : State) : State := rs.foldl (fun s r => railOff r s) s

/-- Berths that are still parking hold the entry up (R323). -/
def State.parksGoOn (s : State) : Bool := s.serve.berths.any (fun p => p.2.st = .parking)

/-- A rail stands at its target, or an error keeps the breakwater from changing it (R330). -/
def State.railSettled (s : State) (r : Nat) : Bool := (s.rail r).mv = (s.rail r).target || s.fieldAt (kBw 4) 5 1 = 1

/-- Step 2 of an entry: quay domains are gated and VCORE falls; for S2 and S3 the context store goes down and ports enter OFF
(R323). -/
def entryGate (s : State) : State :=
  let st := s.power.target
  let s := (quaysLost s).setField (kAon 4) 16 8 0
  let s := if st = .s1 then s else railsOff [2, 3] ((List.range 16).foldl portOff (contextLost s))
  (({ s with power := { s.power with entry := 1 } }).railTo 0 600)

/-- Step 3 of an entry: VSRAM falls; for S1 ports in UP enter low-power idle, and for S3 pilot SRAM goes to the silo (R323,
R376). -/
def entryRest (s : State) : State :=
  let st := s.power.target
  let s := if st = .s1 then (List.range 16).foldl portLpi s else s
  let s := if st = .s3 then s.siloWrote 1 0x3000000 else s
  (({ s with power := { s.power with entry := 2 } }).railTo 1 650)

/-- An entry goes through its steps in order: the parks, which S1 does not have, then step 2, and step 3 once VCORE has fallen
(R323). -/
def entryGoesOn (s : State) : State :=
  if s.power.st != .entering then s
  else
    let s := if s.power.entry = 0 && (s.power.target = .s1 || !s.parksGoOn) then entryGate s else s
    if s.power.entry = 1 && s.railSettled 0 then entryRest s else s

/-- Entry into a sleep state begins: ENTERING, the parks, and what follows them (R323, R329). -/
def beginEntry (st : PwrState) (code : Nat) (s : State) : State :=
  let s := { s with power := { s.power with from' := s.power.st, target := st, a1Next := none, entry := 0 } }
  let s := (s.setField (kAon 4) 24 3 code).setPwr .entering
  let s := if st = .s1 then s else parkAll s
  entryGoesOn s

/-! ### Rails of a transition (R323, R325, R330) -/

/-- The rails move in the order of the steps: into sleep VCORE before VSRAM, out of it VSRAM, VGC, VCORE (R323, R325). -/
def State.railTurn (s : State) (r : Nat) : Bool :=
  match s.power.st with
  | .exiting => (r = 1 || s.railSettled 1) && (r != 0 || s.railSettled 2)
  | _ => true

/-- The breakwater sends the next voltage of a rail whose turn it is, at most 3 times (R330). `acks`: whether each send is acknowledged. -/
def execAvsStep (rail : Nat) (acks : List Bool) (s : State) : Res :=
  .next (let s := entryGoesOn s
    let x := s.rail rail
    if 3 ≤ rail || !s.railTurn rail || x.step.isSome || x.mv = x.target || s.fieldAt (kBw 4) 5 1 = 1 then s
    else
      let a := acks.take 3
      let sent := (a.takeWhile (fun b => !b)).length + bit (a.any (fun b => b))
      let s := (List.range (if a.any (fun b => b) then sent else 3)).foldl (fun s _ => s.emit (.avs rail x.next)) s
      if a.any (fun b => b) then s.setRail rail { x with step := some x.next } else avsFail rail 0x91 s)

/-- S3: everything but the silo's contents and the always-on registers is lost; pilot SRAM lies in the silo (R323, R436). The
container fields stay in force (R116), and so do the serials of the gantries (R253). -/
def deepSleep (s : State) : State :=
  let t := blank s
  let p := s.power
  { t with serve := s.serve, windows := s.windows, quays := s.quays,
           stack := { t.stack with container := s.stack.container },
           power := { t.power with st := p.st, from' := p.from', target := p.target, latched := p.latched, rails := p.rails,
                                   entry := p.entry, coolSince := none },
           board := { s.board with msixOn := false, booted := false },
           silo := { t.silo with bucket := s.silo.bucket, bucketAt := s.silo.bucketAt, passAt := s.silo.passAt } }

/-- The always-on shadow takes TB_NOW over: the aclk in progress has run for as long as its edge lies back (R328). -/
def toShadow (s : State) : State :=
  { s with time := { s.time with shadow := (s.now.toNat + 10 - s.time.aclk % 10) % 10 } }

/-- What the state entered loses when its entry completes. -/
def sleepLoss (st : PwrState) (s : State) : State :=
  match st with
  | .s1 => s
  | .s2 => toShadow s
  | _ =>
    let now := s.now
    railsOff [0, 1, 2, 3, 4, 6, 7] (toShadow ((deepSleep s).setCnt64 kTbNow now))

/-- Entry completes: the state, and the replay of a wake latched meanwhile (R323, R326). A berth that came to hold
containers during the entry is parked first. It waits for the parks and for the rails of steps 2 and 3. -/
def execSleepEntryDone (s : State) : Res :=
  .next (if s.power.st != .entering then s
    else
      let st := s.power.target
      let s := entryGoesOn (if st = .s1 || s.power.entry != 0 then s else parkAll s)
      if s.power.entry != 2 || !s.railSettled 1 then s
      else
        let latched := s.power.latched
        let s := sleepLoss st s
        let s := ((s.setField (kAon 4) 24 3 0).setPwr st).note 165
        match latched with
        | some l => beginExit l.1 l.2 true s
        | none => s)

/-! ### PWR_CMD (R322) -/

/-- A0 or A1 is commanded: at the next boundary of a running chart, else at once (R322). -/
def setA1 (a1 : Bool) (s : State) : State :=
  if s.chartRuns then
    { s.setField (kAon 4) 24 3 (bit a1) with power := { s.power with a1Next := some a1 } }
  else (s.setPwr (if a1 then .a1 else .a0)).note 165

/-- The sleep state of a TARGET. -/
def sleepOf (t : Nat) : PwrState := if t = 2 then .s1 else if t = 3 then .s2 else .s3

/-- A write of PWR_CMD.TARGET (R322, R326, R339, R343). -/
def pwrCmd (rq : Req) (t : Nat) (s : State) : State :=
  if 5 ≤ t then s.regRsvd rq (kAon 0)
  else match s.power.st with
    | .a0 | .a1 =>
      if s.power.a1Next.isSome || s.power.replan then s.pwrRefuse
      else if t = 0 then (if s.power.st = .a1 then setA1 false s else s.pwrRefuse)
      else if t = 1 then (if s.power.st = .a0 then setA1 true s else s.pwrRefuse)
      else if s.maySleep then beginEntry (sleepOf t) t s
      else s.pwrRefuse
    | .s1 => if t = 0 then s.wake 1 else if t = 3 || t = 4 then beginEntry (sleepOf t) t s else s.pwrRefuse
    | .s2 => if t = 0 then s.wake 1 else if t = 4 then beginEntry .s3 4 s else s.pwrRefuse
    | .entering => if t = 0 then s.wake 1 else s.pwrRefuse
    | .trip => if 2 ≤ t && s.mayLeaveTrip then beginEntry (sleepOf t) t s else s.pwrRefuse
    | .s3 | .exiting => s.pwrRefuse

/-- A write of PWR_CMD by its write form: TARGET is a command field, its bits not written read as 0 (R349, R421). -/
def pwrCmdStore (rq : Req) (f : W32 × W32) (s : State) : State :=
  if touches f 0 3 then pwrCmd rq (getBits (f.1 &&& f.2) 0 3) s else s

/-- PWR_CMD, TARGET A0. -/
def execPwrCmdA0 (s : State) : Res := .next (pwrCmdStore .host (0, 7) s)
/-- PWR_CMD, TARGET A1. -/
def execPwrCmdA1 (s : State) : Res := .next (pwrCmdStore .host (1, 7) s)
/-- PWR_CMD, TARGET S1. -/
def execPwrCmdS1 (s : State) : Res := .next (pwrCmdStore .host (2, 7) s)
/-- PWR_CMD, TARGET S2. -/
def execPwrCmdS2 (s : State) : Res := .next (pwrCmdStore .host (3, 7) s)
/-- PWR_CMD, TARGET S3. -/
def execPwrCmdS3 (s : State) : Res := .next (pwrCmdStore .host (4, 7) s)

/-! ### Wakes (R326) -/

/-- TB_NOW reaches WAKE_TIMER (R326, R349). -/
def execWakeTimer (s : State) : Res :=
  .next (let t := s.pair (kAon 0x18)
    if t = 0 || t.toNat < s.now.toNat then s else (s.passTo t).wake 4)

/-- A bollard pin. -/
def State.pin (s : State) (i : Nat) : Pin := tabGet s.board.pins i (Pin.init i)
/-- A bollard pin stored. -/
def State.setPin (s : State) (i : Nat) (x : Pin) : State :=
  { s with board := { s.board with pins := tabPut s.board.pins i x (Pin.init i) } }

/-- A rising edge on a pin set to WAKE (R459). -/
def execPinWake (pin : Nat) (s : State) : Res :=
  .next (let i := pin % 8
    if (s.pin i).fn = 5 && (s.pin i).next.isNone then s.wake 3 else s)

/-! ### Exit (R325, R327, R328) -/

/-- The slot delay ends: the rails rise to the operating point. -/
def execWakeSlotEnd (s : State) : Res :=
  .next (if s.power.st = .exiting && s.power.groups = 0 then
      let s := { s with power := { s.power with groups := 1 } }
      ((s.railTo 1 (s.pointVsram s.point)).railTo 2 900).railTo 0 (s.pointMv s.point s.stillwater)
    else s)

/-- Every AVSBus rail is at its target. -/
def State.railsUp (s : State) : Bool := (List.range 3).all (fun r => (s.rail r).mv = (s.rail r).target)

/-- Group g is power-good: the next may switch on (R327). -/
def execQuayGroupPowerGood (g : Nat) (s : State) : Res :=
  .next (if s.power.st = .exiting && s.power.groups = g + 1 && g < 8 && s.railsUp then
      ({ s with power := { s.power with groups := g + 2 } }).setField (kAon 4) (16 + g) 1 1
    else s)

/-- An enabled quay comes up with its apron zero, IDLE (R110, R183, R325). -/
def quayUp (s : State) (q : Nat) : State :=
  let s := quayLost s q
  if s.enabled q then
    (s.zeroStack (stackAddr q 0 0) 0x60000).setQuay q ((s.quay q).asleep .idle)
  else s.setQuay q ((s.quay q).asleep .idle)

/-- A port comes back: low-power idle ends with a sync frame without the LPI flag, and what waits goes out; a port that is
enabled trains (R324, R325). -/
def portBack (s : State) (p : Nat) : State :=
  let x := s.port p
  if x.lpi then
    let s := s.setPort p { x with lpi := false }
    if x.st = .up then drainEgress p (s.emit (.beacon p false)) else s
  else if x.st = .off && s.fieldAt (pkey p 0) 0 1 = 1 then portTo p .detect s
  else s

/-- Records, firmware and pilot SRAM are back from the silo (R325). -/
def restoreDeep (s : State) : State :=
  let s := restoreRepairs (Config.bootFinds s.free).colBad s.useFree
  { s.setField (kSilo 0) 0 1 1 with board := { s.board with booted := true } }

/-- The last exit step completes: A0 (R325, R328). From S2 and S3 every context column is zero and time is acquired anew. -/
def execSleepExitDone (s : State) : Res :=
  .next (if s.power.st != .exiting || s.power.groups != 9 then s
    else
      let st := s.power.from'
      let s := if st = .s3 then restoreDeep s else s
      let s := (List.range 144).foldl quayUp s
      let s := if st = .s1 then s else spaceLost 2 s
      let s := (List.range 16).foldl portBack s
      let s := if st = .s1 then s else timeBack s
      ((s.endAlign).setPwr .a0).note 165)

/-! ### A1 (R321) -/

/-- A quay is gated where it waits at a WTIDE NEXT with nothing in progress. -/
def gateQuay (s : State) (q : Nat) : State :=
  let x := s.quay q
  if s.enabled q && x.st = .run && x.hold = .tideNext && x.idleUnits && x.sb.isEmpty then
    s.setQuay q { x with gated := true }
  else s

/-- A1_GATE.OFS after a boundary. -/
def execA1GateOffset (s : State) : Res :=
  .next (if s.power.st = .a1 && s.chartRuns then (List.range 144).foldl gateQuay s else s)

/-! ### Thermal trip (R339) -/

/-- Accumulator rows of a set of cranes hold anything (entry 3). -/
def scrambleAcc (q : Nat) (r : Region) (s : State) : State :=
  scrambleRows q ((List.range 4).filter (fun c => bitAt r.cranes c)) r.lo (r.hi + 1 - r.lo) s

/-- A weight-buffer half that was being filled: its slots in FILLING are EMPTY again (R56), their bytes anything. -/
def dropFill (q h : Nat) (s : State) : State :=
  let x := s.quay q
  (List.range 4).foldl (fun s i =>
    let y := s.quay q
    if x.slot h i = .filling then
      let bs := (List.range 2304).map (fun j => Config.freeByte (s.free + j))
      { s.setQuay q { y.setSlot h i .empty with wb := y.wb.write (slotBase h i) bs } with free := s.free + 2304 }
    else s) s

/-- The bytes that an abandoned instruction was writing are indeterminate. -/
def scrambleRegion (q : Nat) (s : State) (e : SbEntry) : State :=
  let r := e.region
  if !r.write then s
  else
    let n := (r.hi + 1 - r.lo) * 64
    match r.kind with
    | .apron => s.scrambleStack (stackAddr q 0 (r.lo * 64)) n
    | .hold => s.scrambleStack (stackAddr q 1 (r.lo * 64)) n
    | .context => s.scrambleStack (stackAddr q 2 (r.lo * 64)) n
    | .half => dropFill q r.lo s
    | .acc => scrambleAcc q r s

/-- A quay's clock stops: STOPPED without draining, its instructions abandoned. -/
def tripQuay (s : State) (q : Nat) : State :=
  if !s.enabled q then s
  else
    let s := (s.quay q).sb.foldl (scrambleRegion q) s
    let x := s.quay q
    s.setQuay q
      { x with st := .stopped, drainTo := .stopped, hold := .none, stall := .none, confHeld := 0, sb := [], cranes := [],
               ve := none, veWait := none, gant0 := [], gant1 := [], moving0 := [], moving1 := [], sends := [], out0 := [],
               out1 := [], gated := false }

/-- A die reaches its trip temperature. -/
def execThermTrip (s : State) : Res :=
  .next (let s := (List.range 144).foldl tripQuay s
    let s := (List.range 16).foldl portLpi (chartEnd 0 0 s)
    let s := { s with power := { s.power with a1Next := none, coolSince := none, latched := none } }
    let s := (s.setField (kAon 4) 24 3 0).setField (kAon 4) 5 1 1
    ((s.setPwr .trip).powerCode 0x93).note 164)

end Sys2Proof.Machine
end

