-- ==== Sys2Proof/Machine/RegRead.lean ====
section
/-! DEFINITION. What a read of a register returns (R414, R420, R422, R441, R442 and the table of each block), and the
latches of the _HI words. -/

namespace Sys2Proof.Machine

/-! ### Words computed at the read -/

/-- Words 2 and 3 of the oldest entry of a log, 0 while it is empty. -/
def logWord2 (l : List LogEntry) : W32 := match l with
  | [] => 0
  | e :: _ => e.w2
/-- See `logWord2`. -/
def logWord3 (l : List LogEntry) : W32 := match l with
  | [] => 0
  | e :: _ => e.w3
/-- The stamp of the oldest entry. -/
def logStamp (l : List LogEntry) : W64 := match l with
  | [] => 0
  | e :: _ => e.ts

/-- A read-only pair as its 64-bit value, by the key of its _LO register. -/
def State.pairView (s : State) (k : Nat) : W64 :=
  if k = 0x8 then s.fuses.serial
  else if k = 0x408 then s.pair 0x408
  else if k = kChart 0x80 then logStamp s.extLog
  else if k = kFab 0x80 then logStamp s.fabLog
  else if k = kMem 0x100 then logStamp s.eccLog
  else if k = kSilo 0x60 then logStamp s.siloLog
  else if k = kAon 0x20 then logStamp s.wakeLog
  else if kSilo 0x30 ≤ k && k < kSilo 0x48 then s.cnt64 k >>> 20
  else s.cnt64 k

/-- How many units of a map are set. -/
def mapCount (m : BitVec 144) : Nat := ((List.range 144).filter (fun q => m.getLsbD q)).length

/-- Word i of a map of 144 units (R355). -/
def mapWord (m : BitVec 144) (i : Nat) : W32 := w32 (fld m.toNat (32 * i) 32)

/-- DEV_ID (R441). -/
def State.devId (s : State) : W32 := w32 (0x09000000 + s.fuses.grade * 2 ^ 16 + (if s.fuses.grade = 136 then 0x9136 else 0x9128))

/-- DEV_REV (R441). -/
def State.devRev (s : State) : W32 :=
  w32 (0x90000000 + s.fuses.stepMaj.toNat * 2 ^ 16 + s.fuses.stepMin.toNat * 2 ^ 8 + s.fuses.board.toNat)

/-- DU_STATUS: the stored bits with ENABLED, SPARES and UNDERGRADE (R355). -/
def State.duStatus (s : State) : W32 :=
  let n := mapCount s.qen
  let v := putBits (putBits (s.reg 0x274) 24 8 n) 16 8 (mapCount s.qspare)
  putBits v 3 1 (bit (n < s.fuses.grade))

/-- Owner key k is present and its hash is the fuse's (R392, R398). -/
def State.keyVerified (s : State) (k : Nat) : Bool :=
  match tabFind s.silo.keys k, tabFind s.fuses.ownerHash k with
  | some key, some h => Config.sha384 key = h
  | _, _ => false

/-- TRUST_STATUS: the stored bits with the fuses and the running copy (R398). -/
def State.trustStatus (s : State) : W32 :=
  let keys := ((List.range 4).map (fun k => bit (s.keyVerified k) * 2 ^ k)).sum
  let v := putBits (putBits (s.reg 0x304) 4 1 (bit s.silo.runB)) 12 4 keys
  putBits (putBits (putBits v 16 4 s.fuses.revoke.toNat) 20 6 s.firmware.svn) 26 6 s.fuses.svnMin

/-- A register of the identity and global block. -/
def State.globView (s : State) (o : Nat) : W32 :=
  if o = 0 then s.devId
  else if o = 4 then s.devRev
  else if o = 0x10 then 0x1030C018
  else if 0x200 ≤ o && o < 0x214 then mapWord s.qen ((o - 0x200) / 4)
  else if 0x220 ≤ o && o < 0x234 then mapWord s.qspare ((o - 0x220) / 4)
  else if 0x240 ≤ o && o < 0x254 then mapWord s.rbad ((o - 0x240) / 4)
  else if o = 0x260 then s.pbad.zeroExtend 32
  else if o = 0x274 then s.duStatus
  else if o = 0x304 then s.trustStatus
  else if o = 0x310 then w32 s.debugLevel
  else if 0x1000 ≤ o then s.portDist ((o - 0x1000) / 16) ((o - 0x1000) / 4 % 4)
  else s.reg o

/-- The port that leads another port into a group (R225). -/
def State.leaderOf (s : State) (p : Nat) : Option Nat :=
  (List.range 16).find? (fun l => l != p && s.fieldAt (pkey l 0) 4 2 != 0 && (s.members l).contains p)

/-- PORT_STATUS: the stored bits with STATE, MEMBER and LEADER (R237). -/
def State.portStatus (s : State) (p : Nat) : W32 :=
  let v := putBits (s.reg (pkey p 4)) 0 4 (portCode (s.port p).st)
  putBits (putBits v 7 1 (bit (s.leaderOf p).isSome)) 8 4 ((s.leaderOf p).getD p)

/-- A word of the route table (R249). -/
def State.routeWord (s : State) (o : Nat) : W32 :=
  let r := tabGet s.fabric.routes (o / 16) Route.init
  let w := if o / 4 % 4 = 0 then r.w0 else if o / 4 % 4 = 1 then r.w1 else if o / 4 % 4 = 2 then r.w2 else r.w3
  w.zeroExtend 32

/-- QSTATE (R185): a disabled quay reads STATE 0. -/
def State.qstateWord (s : State) (q : Nat) : W32 :=
  let x := s.quay q
  w32 ((if s.enabled q then qstateCode x.st else 0) + (x.pc.toNat % 4096) * 2 ^ 4 + x.hcode.toNat * 2 ^ 16)

/-- A register of a quay block. -/
def State.quayView (s : State) (q o : Nat) : W32 :=
  if o = 0 then s.qstateWord q
  else if o = 0x138 then putBits (s.qreg q 0x138) 0 6 (s.quay q).sb.length
  else if 0xC00 ≤ o && o < 0xD00 then s.qreg q (o - 0x800) >>> 16
  else if 0xD00 ≤ o then s.qreg q (o - 0x800) >>> 16
  else s.qreg q o

/-- A word of the container tags (R387). -/
def State.tagWord (s : State) (n o : Nat) : W32 :=
  w32 ((s.tag n (2 * (o / 4))).toNat + (s.tag n (2 * (o / 4) + 1)).toNat * 2 ^ 16)

/-- STATE codes of SLOT_INFO2 (R382). -/
def siloCode : SiloState → Nat
  | .empty => 0
  | .opened => 1
  | .sealed => 2
  | .pool => 3
  | .erasing => 4

/-- WEAR: NAND writes against 7,500 TB in 0.01 %, saturating (R377, R382). -/
def State.wearPct (s : State) : Nat := min 0xFFFF ((s.cnt64 (kSilo 0x40)).toNat * 10000 / 7500000000000000)

/-- A register of the silo block. -/
def State.siloView (s : State) (o : Nat) : W32 :=
  let x := s.slotRec (s.fieldAt (kSilo 0x18) 0 8)
  if o = 0x1C then w32 (x.base * 2 ^ 16 + x.len)
  else if o = 0x20 then w32 x.len1k
  else if o = 0x24 then w32 (x.kind * 16 + siloCode x.st)
  else if o = 0x48 then w32 s.wearPct
  else if o = 0x4C then putBits (s.reg (kSilo 0x4C)) 16 16 (wrap (s.bucketLevel / 1000000000) 16)
  else if o = 0x68 then logWord2 s.siloLog
  else if o = 0x6C then logWord3 s.siloLog
  else s.reg (kSilo o)

/-- Berths that are PARKED, and mirror containers held (R286, R366). -/
def State.parkedCount (s : State) : Nat := (s.serve.berths.filter (fun p => p.2.st = .parked)).length
/-- See `parkedCount`. -/
def State.heldCids (s : State) : Nat := (s.serve.mirrors.map (fun m => m.cids.length)).sum

/-- A register of the mailbox block. -/
def State.mboxView (s : State) (o : Nat) : W32 :=
  if o = 4 then
    putBits (putBits (s.reg (kMb 4)) 0 1 (bit (s.yeweric && s.fieldAt (kMb 0) 0 1 = 1))) 3 1 (bit (!s.cqRoom false))
  else if o = 8 then s.firmware.version
  else if o = 0x30 then w32 (s.serve.berths.length + s.parkedCount * 2 ^ 16)
  else if o = 0x44 then putBits (s.reg (kMb 0x44)) 0 24 s.heldCids
  else s.reg (kMb o)

/-- What a word that is no part of a latched pair reads as. -/
def State.view (s : State) (b : Block) (o : Nat) : W32 :=
  match b with
  | .glob => s.globView o
  | .chart => if o = 0x88 then logWord2 s.extLog else if o = 0x8C then logWord3 s.extLog else s.reg (kChart o)
  | .bw => if o = 0x34 then putBits (s.reg (kBw 0x34)) 8 1 (s.calByte 20).toNat else s.reg (kBw o)
  | .port p => if o = 4 then s.portStatus p else s.reg (pkey p o)
  | .route => s.routeWord o
  | .routeReg => if o = 0x88 then logWord2 s.fabLog else if o = 0x8C then logWord3 s.fabLog else s.reg (kFab o)
  | .quay q => s.quayView q o
  | .stack => if o = 0x108 then logWord2 s.eccLog else if o = 0x10C then logWord3 s.eccLog else s.reg (kMem o)
  | .tags n => s.tagWord n o
  | .silo => s.siloView o
  | .mbox => s.mboxView o
  | .tb => if o = 0x84 then putBits (s.reg (kTb 0x84)) 0 1 (bit s.traceFull) else s.reg (kTb o)
  | .aon =>
    if o = 4 then putBits (s.reg (kAon 4)) 0 4 (pwrCode s.power.st)
    else if o = 0x28 then logWord2 s.wakeLog
    else if o = 0x2C then logWord3 s.wakeLog
    else s.reg (kAon o)
  | .msix => s.reg (keyOf .msix o)
  | .pba => s.reg (keyOf .pba o)
  | .dma c => s.reg (dkey c (o % 0x100))
  | .mboxWindow => 0

/-- The pending view of a staged register (R422). -/
def State.pendView (s : State) (q o : Nat) : W32 :=
  if 0xC00 ≤ o then s.pendingOf q (qkey q (o - 0x800)) >>> 16 else s.pendingOf q (qkey q o)

/-! ### Reads (R442) -/

/-- A read of an _LO register latches its _HI for the class (R73, R442). -/
def State.latchHi (s : State) (rq : Req) (k : Nat) : State :=
  { s with latch := tabPut s.latch (latchKey rq k) (hi32 (s.pairView k)) 0 }

/-- The _HI word latched by the last _LO read of a class, 0 before one (R442). -/
def State.latched (s : State) (rq : Req) (k : Nat) : W32 := tabGet s.latch (latchKey rq k) 0

/-- One register read by a class: the state after it and the word (R414, R442). -/
def State.readWord (s : State) (rq : Req) (b : Block) (o : Nat) : State × W32 :=
  let k := keyOf b o
  if latchedLo k then (s.latchHi rq k, lo32 (s.pairView k))
  else if 4 ≤ k && latchedLo (k - 4) then (s, s.latched rq (k - 4))
  else (s, s.view b o)

end Sys2Proof.Machine
end

