-- ==== Sys2Proof/Machine/Dma.lean ====
section
/-! DEFINITION. The host DMA engine: channel control, descriptors, transfers and completions (R428 to R434, R439), and the
control of the trace ring (R445). -/

namespace Sys2Proof.Machine

/-! ### Channel state (R439) -/

/-- DMA_CTRL.EN of channel c. -/
def State.dmaEn (s : State) (c : Nat) : Bool := s.fieldAt (dkey c 0) 0 1 = 1
/-- DMA_STATUS.STATE: 0 IDLE, 1 RUN, 2 ERROR, 3 ABORTING. -/
def State.dmaState (s : State) (c : Nat) : Nat := s.fieldAt (dkey c 4) 0 3
/-- DMA_STATUS.STATE stored. -/
def dmaTo (c st : Nat) (s : State) : State := s.setField (dkey c 4) 0 3 st
/-- DMA_STATUS.DEPTH. -/
def State.dmaLevel (s : State) (c : Nat) : Nat := s.fieldAt (dkey c 4) 4 3
/-- DMA_STATUS.DEPTH stored. -/
def dmaDepth (c d : Nat) (s : State) : State := s.setField (dkey c 4) 4 3 d
/-- HEAD and TAIL. -/
def State.dmaHead (s : State) (c : Nat) : Nat := s.fieldAt (dkey c 0x18) 0 16
/-- See `State.dmaHead`. -/
def State.dmaTail (s : State) (c : Nat) : Nat := s.fieldAt (dkey c 0x14) 0 16
/-- HEAD advances by 1. -/
def dmaHeadNext (c : Nat) (s : State) : State := s.setField (dkey c 0x18) 0 16 (s.dmaHead c + 1)

/-- Entries of the ring: 2^k. -/
def State.ringEntries (s : State) (c : Nat) : Nat := 2 ^ s.fieldAt (dkey c 0x10) 0 4

/-- The host address of the next descriptor: the chain's, or the ring entry at HEAD (R428). -/
def State.dmaAddr (s : State) (c : Nat) : W64 :=
  if (s.chan c).busy then (s.chan c).next else s.pair (dkey c 8) + w64 (64 * (s.dmaHead c % s.ringEntries c))

/-- The channel runs no entry. -/
def dmaFree (c : Nat) (s : State) : State := dmaDepth c 0 (s.setChan c Chan.init)

/-- RUN, or IDLE while EN is 0. -/
def dmaGoOn (c : Nat) (s : State) : State := dmaTo c (if s.dmaEn c then 1 else 0) s

/-- IDLE with EN cleared: the end of an ABORT (R439). -/
def dmaStop (c : Nat) (s : State) : State := dmaTo c 0 (dmaFree c (s.setField (dkey c 0) 0 1 0))

/-! ### Control (R433, R439) -/

/-- The host has no effect on channels 12 to 15 (R428). -/
def dmaShut (rq : Req) (c : Nat) : Bool := rq = .host && decide (12 ≤ c)

/-- ABORT: at once, or after the XFER in progress. ERROR is left by RESTART and SKIP only. -/
def dmaAbort (c : Nat) (s : State) : State :=
  if s.dmaState c = 2 then s.setField (dkey c 0) 0 1 0
  else if (s.chan c).xfer.isSome then dmaTo c 3 s
  else dmaStop c s

/-- SKIP and RESTART: accepted in ERROR only; both clear DEPTH. -/
def dmaResume (c : Nat) (skip : Bool) (s : State) : State :=
  if s.dmaState c != 2 then s
  else dmaGoOn c (dmaFree c (if skip then dmaHeadNext c s else s))

/-- EN has been written: an idle channel starts, and one that runs no entry stops. -/
def dmaEnable (c : Nat) (s : State) : State :=
  if s.dmaState c = 0 && s.dmaEn c then dmaTo c 1 s
  else if s.dmaState c = 1 && !s.dmaEn c && !(s.chan c).busy then dmaTo c 0 s
  else s

/-- A write of DMA_CTRL: EN, then ABORT, or SKIP before RESTART. -/
def dmaCtrlStore (rq : Req) (c : Nat) (f : W32 × W32) (s : State) : State :=
  if dmaShut rq c then s
  else
    let s := dmaEnable c (s.setField (dkey c 0) 0 1 (getBits (mergeBits (s.reg (dkey c 0)) f) 0 1))
    if cmdBit f 3 then dmaAbort c s
    else if cmdBit f 2 then dmaResume c true s
    else if cmdBit f 1 then dmaResume c false s
    else s

/-- A write of TAIL: one that would place more than 2^k entries ahead of HEAD is ignored (R439). -/
def dmaTailStore (rq : Req) (c : Nat) (f : W32 × W32) (s : State) : State :=
  if dmaShut rq c then s
  else
    let v := getBits (mergeBits (s.reg (dkey c 0x14)) f) 0 16
    if s.ringEntries c < (v + 65536 - s.dmaHead c) % 65536 then s.regRsvd rq (dkey c 0x14)
    else s.setField (dkey c 0x14) 0 16 v

/-- A write of RING or WB: stored only while EN is 0 (R439). -/
def dmaBaseStore (rq : Req) (c o : Nat) (f : W32 × W32) (s : State) : State :=
  if dmaShut rq c then s
  else if s.dmaEn c then s.regRsvd rq (dkey c o)
  else s.setReg (dkey c o) (mergeBits (s.reg (dkey c o)) f)

/-- A write of RING_SIZE: 0 to 3 and 13 to 15 are reserved encodings (R439). -/
def dmaSizeStore (rq : Req) (c : Nat) (f : W32 × W32) (s : State) : State :=
  if dmaShut rq c then s
  else
    let v := getBits (mergeBits (s.reg (dkey c 0x10)) f) 0 4
    if v < 4 || 12 < v then s.regRsvd rq (dkey c 0x10) else s.setField (dkey c 0x10) 0 4 v

/-- DMA_CTRL.EN written. -/
def execDmaEnWrite (c : Nat) (en : Bool) (s : State) : Res := .next (dmaCtrlStore .host c (w32 (bit en), 1) s)
/-- DMA_CTRL.ABORT. -/
def execDmaAbort (c : Nat) (s : State) : Res := .next (dmaCtrlStore .host c (8, 8) s)
/-- DMA_CTRL.SKIP. -/
def execDmaSkip (c : Nat) (s : State) : Res := .next (dmaCtrlStore .host c (4, 4) s)
/-- DMA_CTRL.RESTART. -/
def execDmaRestart (c : Nat) (s : State) : Res := .next (dmaCtrlStore .host c (2, 2) s)
/-- TAIL. -/
def execDmaTailWrite (c : Nat) (data : W32) (s : State) : Res :=
  .next (dmaTailStore .host c (writeForm (s.maskMode 0) false data) s)

/-! ### Completion and errors (R428, R433, R434) -/

/-- The 16 bytes written to WB, where WB is not 0, and the channel's notification source. -/
def dmaReport (c user : Nat) (s : State) : State :=
  let wb := s.pair (dkey c 0x1C)
  let st := s.reg (dkey c 4)
  let bytes := leBytes 2 (s.dmaHead c) ++ leBytes 1 (getBits st 0 3) ++ leBytes 1 (getBits st 24 8) ++ leBytes 4 user ++
    leBytes 8 s.now.toNat
  (if wb = 0 then s else s.emit (.hostWrite wb bytes)).note (176 + c)

/-- A descriptor has completed: with IRQ, the writeback and IRQ_EVT. -/
def dmaDone (c : Nat) (irq : Bool) (user : W32) (s : State) : State :=
  if irq then dmaReport c user.toNat (s.orReg (dkey c 4) 0x200) else s

/-- The first error: ERROR with its code and the failing descriptor's address; nothing is rolled back. -/
def dmaError (c code user : Nat) (s : State) : State :=
  let s := s.setCnt64 (dkey c 0x24) (s.dmaAddr c)
  let s := (dmaTo c 2 s).setField (dkey c 4) 24 8 code
  let s := s.setChan c Chan.init
  dmaReport c user (s.orReg (dkey c 4) 0x100)

/-- The ring entry has completed with every descriptor it called. -/
def dmaEntryDone (c : Nat) (s : State) : State := dmaGoOn c (dmaHeadNext c (s.setChan c Chan.init))

/-! ### Descriptors (R429, R430) -/

/-- Fields of a descriptor. -/
def dType (d : List Byte) : Nat := leAt d 0 1
/-- DIR 1: module to host. -/
def dOut (d : List Byte) : Bool := leAt d 1 1 % 2 = 1
/-- IRQ. -/
def dIrq (d : List Byte) : Bool := leAt d 1 1 / 2 % 2 = 1
/-- TGT. -/
def dTgt (d : List Byte) : Nat := leAt d 2 1
/-- LEN. -/
def dLen (d : List Byte) : Nat := leAt d 4 4
/-- HADDR. -/
def dHaddr (d : List Byte) : Nat := leAt d 8 8
/-- TADDR. -/
def dTaddr (d : List Byte) : Nat := leAt d 16 8
/-- USER. -/
def dUser (d : List Byte) : Nat := leAt d 24 4

/-- Reserved bits of a descriptor are 0. -/
def dRsvOk (d : List Byte) : Bool := leAt d 1 1 < 4 && leAt d 3 1 = 0 && zeros d 28 63

/-- Granule of a target (R431). -/
def dGranule (t : Nat) : Nat := if t = 1 then 16 else 64

/-- Offset of a target address (R431). -/
def dOffset (t a : Nat) : Nat :=
  if t = 0 then fld a 0 28 else if t = 1 then fld a 16 16 else if t = 2 then fld a 0 24 else fld a 8 40

/-- Reserved bits of a target address are 0 (R431). -/
def dTaddrOk (t a : Nat) : Bool :=
  if t = 0 then a < 2 ^ 38 else if t = 1 then fld a 8 8 = 0 && a < 2 ^ 32 else if t = 2 then a < 2 ^ 25 else a < 2 ^ 48

/-- Fields of an XFER in order (R429, R431). -/
def dXferOk (d : List Byte) : Bool :=
  let t := dTgt d
  t < 4 && 0 < dLen d && dLen d % dGranule t = 0 && dTaddrOk t (dTaddr d) && dOffset t (dTaddr d) % dGranule t = 0 &&
  !(t = 1 && dOut d)

/-- Fields of a CALL, JUMP or END in order: what the TYPE does not use is 0. -/
def dLinkOk (d : List Byte) : Bool :=
  !dOut d && dTgt d = 0 && dLen d = 0 && dTaddr d = 0 && dHaddr d % 64 = 0 && (dType d != 4 || dHaddr d = 0)

/-- The code that a descriptor ends its channel with at a level, if it does (R430, R433). -/
def dCheck (d : List Byte) (level : Nat) : Option Nat :=
  if !dRsvOk d then some 0xC5
  else if dType d = 1 then (if dXferOk d then none else some 0xC5)
  else if dType d = 0 || 4 < dType d || !dLinkOk d then some 0xC5
  else if level = 0 && dType d != 2 then some 0xC5
  else if dType d = 2 && 4 ≤ level then some 0xC4
  else none

/-- The channel is ready for a descriptor: it runs an entry and no XFER, or starts the entry at HEAD. Host DMA pauses in a
slack-water sync (R314). -/
def State.dmaReady (s : State) (c : Nat) : Bool :=
  s.dmaState c = 1 && s.fabric.sws = .off && (s.chan c).xfer.isNone && ((s.chan c).busy || (s.dmaEn c && s.dmaHead c != s.dmaTail c))

/-- A descriptor counts in its ring entry. -/
def dmaBegin (c : Nat) (s : State) : State :=
  let a := s.dmaAddr c
  let x := s.chan c
  s.setChan c { x with busy := true, ran := x.ran + 1, next := a }

/-- A descriptor arrives at a channel that is ready: a failed read, a fault of its fields, or what its TYPE does. A command
of another TYPE changes nothing (entry 5). -/
def dmaRun (c ty : Nat) (desc : HostRead) (f : List Byte → State → State) (s : State) : State :=
  if !s.dmaReady c then s
  else match desc with
    | none => dmaError c 0xC3 (Config.freeCount s.free) s.useFree
    | some d =>
      let odd := dType d = 0 || 4 < dType d
      if dType d != ty && !(odd && ty = 1) then s
      else
        let s := dmaBegin c s
        if 65536 < (s.chan c).ran then dmaError c 0xC5 (dUser d) s
        else match dCheck d (s.dmaLevel c) with
          | some code => dmaError c code (dUser d) s
          | none => f d s

/-- CALL: the chain at HADDR runs one level down. -/
def dmaCall (c : Nat) (d : List Byte) (s : State) : State :=
  let x := s.chan c
  let s := s.setChan c { x with stack := (x.next + 64) :: x.stack, calls := (dIrq d, w32 (dUser d)) :: x.calls, next := w64 (dHaddr d) }
  dmaDepth c (s.dmaLevel c + 1) s

/-- JUMP: the chain continues at HADDR. -/
def dmaJump (c : Nat) (d : List Byte) (s : State) : State :=
  dmaDone c (dIrq d) (w32 (dUser d)) (s.setChan c { s.chan c with next := w64 (dHaddr d) })

/-- END: the chain returns to its CALL, which completes; at level 0 the entry completes. -/
def dmaEnd (c : Nat) (d : List Byte) (s : State) : State :=
  let s := dmaDone c (dIrq d) (w32 (dUser d)) s
  let x := s.chan c
  match x.stack, x.calls with
  | ret :: st, (irq, user) :: cs =>
    let s := dmaDepth c st.length (s.setChan c { x with stack := st, calls := cs, next := ret })
    dmaDone c irq user (if st.isEmpty then dmaEntryDone c s else s)
  | _, _ => s

/-- DESC_CALL. -/
def execDescCall (c : Nat) (desc : HostRead) (s : State) : Res := .next (dmaRun c 2 desc (dmaCall c) s)
/-- DESC_JUMP. -/
def execDescJump (c : Nat) (desc : HostRead) (s : State) : Res := .next (dmaRun c 3 desc (dmaJump c) s)
/-- DESC_END. -/
def execDescEnd (c : Nat) (desc : HostRead) (s : State) : Res := .next (dmaRun c 4 desc (dmaEnd c) s)

/-! ### XFER (R412, R431) -/

/-- The STACK window of quay n is open (R412): no chart ARMED, RUNNING or STOPPING, or the quay and its basin stopped. -/
def State.stackOpen (s : State) (q : Nat) : Bool :=
  let st := s.chartState
  !(st = 3 || st = 4 || st = 5) ||
  ((s.quay q).st.isStopped &&
    (match s.tide.chart with
     | none => true
     | some c => c.basins.all (fun b => !b.quays.contains q || b.quays.all (fun n => (s.quay n).st.isStopped))))

/-- A chart buffer is that of the running chart or under check (R210). -/
def State.bufBusy (s : State) (buf : Bool) : Bool :=
  let st := s.chartState
  let sb := s.fieldAt (kChart 4) 4 4
  ((1 ≤ st && st ≤ 5) && s.tide.sub.any (fun x => x.buf = buf)) ||
  ((1 ≤ sb && sb ≤ 4) && s.tide.succSub.any (fun x => x.buf = buf))

/-- A transfer begins: what it writes in the module, and the descriptor that follows it. -/
def dmaMoving (c : Nat) (d : List Byte) (what : Option (Nat × Nat × Nat)) (s : State) : State :=
  let x := s.chan c
  s.setChan c { x with xfer := some (dIrq d, w32 (dUser d)), moving := what, next := x.next + 64 }

/-- The target check of R431 on n bytes: the code that stops the channel, or none. A refused silo write logs why (R380,
R381). -/
def State.dmaTarget (s : State) (d : List Byte) : Option Nat :=
  let t := dTgt d
  let a := dTaddr d
  let n := dLen d
  let ok :=
    if t = 0 then (s.checkStack a n).isNone && s.stackOpen (saQuay a)
    else if t = 1 then decide (dOffset 1 a + n ≤ 65536) && s.enabled (fld a 0 8)
    else if t = 2 then decide (dOffset 2 a + n ≤ 16777216)
    else
      let x := s.slotRec (fld a 0 8)
      s.fieldAt (kSilo 0) 0 1 = 1 && decide (dOffset 3 a + n ≤ x.size) &&
      (if dOut d then x.st = .opened || x.st = .sealed else x.st = .opened && s.siloWritable)
  if ok then none else some 0xC6

/-- First address a transfer writes or reads: a stack address, an offset of the logbook, chart-buffer or silo space. -/
def State.dmaPlace (s : State) (d : List Byte) : Nat :=
  let t := dTgt d
  let a := dTaddr d
  if t = 0 then a
  else if t = 1 then dOffset 1 a
  else if t = 2 then bit (fld a 24 1 = 1) * 16777216 + dOffset 2 a
  else (s.slotRec (fld a 0 8)).addr + dOffset 3 a

/-- Bytes go into a target; a refused load or buffer write writes nothing (R172, R210). -/
def dmaPut (d : List Byte) (bs : List Byte) (s : State) : State :=
  let t := dTgt d
  let q := fld (dTaddr d) 0 8
  let a := s.dmaPlace d
  if t = 0 then (awaitScrub a s).writeStack a bs
  else if t = 1 then (if (s.quay q).st.isStopped then logLoad q a bs s else s.logRefused q)
  else if t = 2 then
    if s.bufBusy (fld (dTaddr d) 24 1 = 1) then s.orReg (kChart 4) 0x4000 else { s with chartBuf := s.chartBuf.write a bs }
  else (s.siloProgram a bs).siloWrote 0 bs.length

/-- Bytes come out of a target, up to a word or page that does not read: the state, the bytes and the code (R123,
R380). -/
def dmaGet (d : List Byte) (s : State) : State × List Byte × Option Nat :=
  let t := dTgt d
  let n := dLen d
  let a := s.dmaPlace d
  if t = 0 then
    let r := (awaitScrub a s).readStack a n
    match r.2.2 with
    | none => (r.1, r.2.1, none)
    | some k => (r.1, r.2.1.take (k - a), some (ueCode k))
  else if t = 2 then (s, s.chartBuf.read a n, none)
  else match (s.silo.badPages.filter (fun p => decide (p < a + n) && decide (a < p + 4096))) with
    | [] => (s, s.silo.mem.read a n, none)
    | p :: ps =>
      let bad := ps.foldl min p
      (s.slogPush 0xE0 (fld (dTaddr d) 0 8) bad, s.silo.mem.read a (bad - a), some 0xE0)

/-- The router at the module's end of a transfer, where the spec gives it one (R18): a quay column or the silo's corner. -/
def dmaRouter (d : List Byte) : Option Nat :=
  let t := dTgt d
  if t = 0 then some (saQuay (dTaddr d)) else if t = 1 then some (fld (dTaddr d) 0 8) else if t = 3 then some siloRouter else none

/-- No way over the mesh joins host DMA's corner to the target: every word of the transfer is discarded on its way, and it does
not complete (R17, R18). -/
def dmaLost (c : Nat) (d : List Byte) (s : State) : State :=
  let s := dmaMoving c d none s
  s.setChan c { s.chan c with lost := true }

/-- Bulk data of a transfer crosses the mesh (R18, R19). -/
def dmaMesh (d : List Byte) (s : State) : State :=
  match dmaRouter d with
  | some r => meshAdapt true hostRouter r s
  | none => s

/-- An XFER's bytes move; those of a host read that failed part way do too (R431 to R433). -/
def dmaXfer (c : Nat) (data : HostRead) (d : List Byte) (s : State) : State :=
  match s.dmaTarget d with
  | some code =>
    dmaError c code (dUser d) (if dTgt d = 3 && !dOut d && !s.siloWritable then s.slogPush 0xE3 (fld (dTaddr d) 0 8) 0 else s)
  | none =>
    if (dmaRouter d).any (fun r => !s.routable hostRouter r) then dmaLost c d s
    else if dOut d then
      match dmaGet d (dmaMesh d s) with
      | (s, bs, e) =>
        let s := if bs.isEmpty then s else s.emit (.hostWrite (w64 (dHaddr d)) bs)
        match e with
        | some code => dmaError c code (dUser d) s
        | none => dmaMoving c d none s
    else
      match data with
      | none => dmaError c 0xC3 (dUser d) s
      | some bs =>
        let s' := dmaPut d (bs.take (dLen d)) (dmaMesh d s)
        if bs.length < dLen d then dmaError c 0xC3 (dUser d) s'
        else dmaMoving c d (some (dTgt d, s.dmaPlace d, dLen d)) s'

/-- DESC_XFER: the bytes move in this step; the descriptor completes at XFER_COMPLETE. -/
def execDescXfer (c : Nat) (desc data : HostRead) (s : State) : Res := .next (dmaRun c 1 desc (dmaXfer c data) s)

/-- The XFER in progress has moved its last byte: it completes, and at level 0 its entry does; an ABORT ends here. -/
def dmaXferDone (c : Nat) (irq : Bool) (user : W32) (s : State) : State :=
  let s := s.setReg (dkey c 0x2C) (s.reg (dkey c 0x2C) + 1)
  let aborting := s.dmaState c = 3
  let x := s.chan c
  let s := s.setChan c { x with xfer := none, moving := none }
  let s := if s.dmaLevel c = 0 then dmaEntryDone c s else s
  let s := if aborting then dmaStop c s else s
  dmaDone c irq user s

/-- XFER_COMPLETE. Host DMA pauses in a slack-water sync (R314), and a transfer without a way over the mesh never ends. -/
def execXferComplete (c : Nat) (s : State) : Res :=
  .next (match (s.chan c).xfer with
    | some (irq, user) => if (s.chan c).lost || s.fabric.sws != .off then s else dmaXferDone c irq user s
    | none => s)

/-! ### Trace control (R445) -/

/-- A write of TRACE_CTRL: EN written as 1 zeroes HEAD and TAIL. -/
def traceCtrlStore (f : W32 × W32) (s : State) : State :=
  let s := s.setReg (kTrace 0) (mergeBits (s.reg (kTrace 0)) (f.1, f.2 &&& 0xFF03))
  if cmdBit f 0 then (s.setField (kTrace 5) 0 16 0).setField (kTrace 6) 0 16 0 else s

/-- A write of TRACE_BASE or TRACE_SIZE: stored only while EN is 0; sizes 0 to 5 are reserved encodings. -/
def traceBaseStore (rq : Req) (i : Nat) (f : W32 × W32) (s : State) : State :=
  let v := mergeBits (s.reg (kTrace i)) f
  if s.fieldAt (kTrace 0) 0 1 = 1 || (i = 4 && getBits v 0 4 < 6) then s.regRsvd rq (kTrace i)
  else s.setReg (kTrace i) (if i = 4 then v &&& 0xF else v)

/-- TRACE_CTRL.EN written. -/
def execTraceEnWrite (en : Bool) (s : State) : Res := .next (traceCtrlStore (w32 (bit en), 1) s)

end Sys2Proof.Machine
end

