-- ==== Sys2Proof/Machine/RegWrite.lean ====
section
/-! DEFINITION. Register accesses: the decode of host, pilot and SMBus accesses, the write forms, what a write does at each
register, and the errors of accesses that are refused (R411 to R424, R440, R443, R444). -/

namespace Sys2Proof.Machine

/-! ### Where an access goes -/

/-- Where an access goes: nowhere, to a register by its plain address (window 0) or through the SET, CLEAR or TOGGLE window
(1 to 3), to a pending view, or to a byte window. -/
inductive Place where
  | nowhere
  | reg (b : Block) (o window : Nat)
  | pend (q o : Nat)
  | mail (a : Nat)
  | cal (o : Nat)
deriving DecidableEq, Repr

/-- The BLOCK_MODE group of a block (R419). -/
def groupOf (b : Block) : Option Nat :=
  match b with
  | .glob | .dma _ => some 0
  | .chart => some 1
  | .bw => some 2
  | .port _ => some 3
  | .route | .routeReg => some 4
  | .quay _ => some 5
  | .stack => some 6
  | .silo => some 7
  | .mbox => some 8
  | .tb => some 9
  | .aon => some 10
  | .msix | .pba | .tags _ | .mboxWindow => none

/-- The block is written in MASK form. -/
def State.maskBlock (s : State) (b : Block) : Bool := (groupOf b).any (fun g => s.maskMode g)

/-- The block has SET, CLEAR and TOGGLE windows (R420): it is in a group that is in ALIAS mode. -/
def State.aliasBlock (s : State) (b : Block) : Bool := (groupOf b).any (fun g => !s.maskMode g)

/-- The block spans more than its own 64 KiB of registers, so that no bits select windows. -/
def flatBlock (b : Block) : Bool :=
  match b with
  | .msix | .pba | .route | .tags _ => true
  | _ => false

/-- A staged register of a quay block (R422). -/
def stagedOfs (o : Nat) : Bool := (rowFind quayRows o).any (fun r => r.rws)

/-- The mailbox rings and ledgers (R411). -/
def inMail (a : Nat) : Bool := 0x1810000 ≤ a && a < 0x1860000
/-- The calibration staging window (R346). -/
def inCal (a : Nat) : Bool := 0x201000 ≤ a && a < 0x202000

/-- With no valid firmware copy only the registers of the trust chapter, the silo block and the always-on block serve
(R393). -/
def servesFaulted (b : Block) (o : Nat) : Bool :=
  match b with
  | .glob => 0x300 ≤ o && o < 0x314
  | .quay _ => o = 0x40
  | .tags _ | .silo | .aon => true
  | _ => false

/-- Yeweric did not start for want of a valid copy: MB_STATUS.FW_FAULT (R286, R393). -/
def State.fwFault (s : State) : Bool := s.fieldAt (kMb 4) 5 1 = 1

/-- A place, closed while FW_FAULT leaves its block out of service. -/
def State.serving (s : State) (p : Place) : Place :=
  if !s.fwFault then p
  else match p with
    | .reg b o w => if servesFaulted b o then .reg b o w else .nowhere
    | _ => .nowhere

/-- A register in a block whose base offset and window are known. -/
def placeAt (b : Block) (o w : Nat) : Place :=
  match b with
  | .quay q => if 0x2000 ≤ o then (if stagedOfs (o - 0x2000) then .pend q (o - 0x2000) else .nowhere) else
      if (specAt b o).isSome then .reg b o w else .nowhere
  | _ => if (specAt b o).isSome then .reg b o w else .nowhere

/-- Full decode of a host address (R415, R420 to R422, R440). -/
def State.hostPlace (s : State) (a : Nat) : Place :=
  if inMail a then s.serving (.mail a)
  else if inCal a then s.serving (.cal (a - 0x201000))
  else match blockAt a with
    | none => .nowhere
    | some (b, o) =>
      if flatBlock b then s.serving (if (specAt b o).isSome then .reg b o 0 else .nowhere)
      else if o < 0x4000 then s.serving (placeAt b o 0)
      else if s.aliasBlock b then s.serving (placeAt b (o % 0x4000) (o / 0x4000))
      else .nowhere

/-- The offset bits that a pilot or SMBus access decodes in a block (R443). -/
def pilotOfs (b : Block) (o : Nat) : Nat :=
  let o := o - o % 4
  match b with
  | .glob | .bw => o % 0x2000
  | .msix | .route | .tags _ | .mboxWindow => o
  | .pba | .chart | .routeReg | .silo | .tb => o % 0x100
  | .dma _ => fld o 8 4 * 0x100 + fld o 2 4 * 4
  | .port _ => o % 0x200
  | .quay _ => o % 0x1000 + fld o 13 1 * 0x2000
  | .stack => o % 0x400
  | .mbox => o % 0x80
  | .aon => o % 0x40

/-- Partial decode of a pilot or SMBus address (R443, R444). -/
def State.pilotPlace (s : State) (a : Nat) : Place :=
  if inMail a then s.serving (.mail a)
  else match blockAt a with
    | none => .nowhere
    | some (b, o) =>
      let d := pilotOfs b o
      if b = .bw && 0x1000 ≤ d then s.serving (.cal (d - 0x1000))
      else s.serving (placeAt b d (if !flatBlock b && s.aliasBlock b then fld o 14 2 else 0))

/-- Where an access of a class goes; the SMBus port reaches the always-on block only (R443). -/
def State.place (s : State) (rq : Req) (a : Nat) : Place :=
  match rq with
  | .host => s.hostPlace a
  | .pilot => s.pilotPlace a
  | .smbus => match blockAt a with
    | some (.aon, _) => s.pilotPlace a
    | _ => .nowhere

/-! ### Writes at the registers -/

/-- RW and RWS bits of a register for a class: PNOTE_MASK and the tags are RW for the pilots only (R387, R438). -/
def rwBits (rq : Req) (b : Block) (o : Nat) (r : RegSpec) : Nat :=
  match b with
  | .glob => if 0x580 ≤ o && o < 0x5C0 && rq = .pilot then 0xFFFF else r.rw
  | .tags _ => if rq = .pilot then 0x8FFF8FFF else 0
  | _ => r.rw

/-- The register is a whole-word register (R421): writable bits above 15 and no _H companion. -/
def wholeWord (b : Block) (o : Nat) (r : RegSpec) : Bool :=
  decide (2 ^ 16 ≤ r.rw ||| r.w1c ||| r.wo ||| r.lk) &&
  (match b with
   | .quay _ => !(0x400 ≤ o && o < 0x540)
   | _ => true)

/-- RW fields take the written bits and W1C bits clear where they are written 1. -/
def State.storeBits (s : State) (k rw w1c : Nat) (f : W32 × W32) : State :=
  let old := s.reg k
  s.setReg k (mergeBits old (f.1, f.2 &&& w32 rw) &&& ~~~(f.1 &&& f.2 &&& w32 w1c))

/-- A group of counters cleared by CLR, and HOLD stored (R73, R103, R185, R237, R264). -/
def State.storeCntCtrl (s : State) (k lo n : Nat) (f : W32 × W32) : State :=
  let s := s.storeBits k 2 0 f
  if cmdBit f 0 then s.clear64 lo n else s

/-- HOST_ERR: clearing VALID clears OVF and re-arms the capture (R424, R438). -/
def hostErrStore (f : W32 × W32) (s : State) : State :=
  let s := s.storeBits 0x404 0 0x3F f
  if cmdBit f 0 then s.setField 0x404 5 1 0 else s

/-- FAULT_STAT: clearing VALID clears MULTI and PRECISE (R185). -/
def faultStatStore (q : Nat) (f : W32 × W32) (s : State) : State :=
  let k := qkey q 0x20
  let s := s.storeBits k 0 3 f
  if cmdBit f 0 then s.setReg k (s.reg k &&& 0xFFFFFFF8) else s

/-- PATCH_CTRL: MODE 0b11 is a reserved encoding (R185). -/
def patchCtrlStore (rq : Req) (q : Nat) (f : W32 × W32) (s : State) : State :=
  let v := getBits (mergeBits (s.qreg q 0x30) f) 0 2
  if v = 3 && touches f 0 2 then s.regRsvd rq (quayAddr q 0x30) else s.setField (qkey q 0x30) 0 2 v

/-- SEND_REC: the EVICT bits, then DROP0 and DROP1 (R265). -/
def sendRecStore (q : Nat) (f : W32 × W32) (s : State) : State :=
  let s := s.storeBits (qkey q 0x600) 0 0x300 f
  let s := if cmdBit f 10 then dropRecs q 0 s else s
  if cmdBit f 11 then dropRecs q 1 s else s

/-- CNTn_H: bits [31:16] of CNTn (R160). -/
def cntHighStore (k : Nat) (f : W32 × W32) (s : State) : State :=
  s.setReg k (mergeBits (s.reg k) ((f.1 &&& 0xFFFF) <<< 16, (f.2 &&& 0xFFFF) <<< 16))

/-- ISS_CNT_CTRL (R185). -/
def issCtrlStore (q : Nat) (f : W32 × W32) (s : State) : State :=
  let s := s.storeBits (qkey q 0x130) 2 0 f
  if cmdBit f 0 then issClear q s else s

/-- NOTE_MASKw: clearing a mask over a set bit raises its vector (R426). -/
def noteMaskStore (w : Nat) (f : W32 × W32) (s : State) : State :=
  raiseNew s w (s.storeBits (kNoteMask w) 0xFFFF 0 f)

/-- A value of BLOCK_MODE that R419 allows: groups 4 and 6 in MASK mode, group 7 in ALIAS mode. -/
def blockModeOk (v : Nat) : Bool := bitAt v 4 && bitAt v 6 && !bitAt v 7

/-- BLOCK_MODE: written only in chart state NONE or REFUSED (R419). -/
def blockModeStore (rq : Req) (f : W32 × W32) (s : State) : State :=
  if !s.noChart then s.hostErr rq 0xCA 0 0x400
  else
    let v := getBits (mergeBits (s.reg 0x400) f) 0 11
    if blockModeOk v then s.setField 0x400 0 11 v else s.regRsvd rq 0x400

/-- A word of the MSI-X table; an unmasked vector with its pending bit set sends its message (R426). -/
def msixStore (o : Nat) (d : W32) (s : State) : State :=
  let v := o / 16
  if o % 16 != 12 then s.setReg (keyOf .msix o) d
  else
    let s := s.setReg (keyOf .msix o) (d &&& 1)
    let k := 0x90000 + 4 * (v / 32)
    if d.getLsbD 0 || s.fieldAt k (v % 32) 1 = 0 then s else (s.setField k (v % 32) 1 0).raiseVector v

/-- What a write leaves in a route word: UNIT 4 to 7 is a reserved encoding and keeps the old UNIT, and word 3 holds MC_LOCAL
alone (R9, R249). -/
def routeMerge (i : Nat) (old : W32) (f : W32 × W32) : W32 :=
  let v := mergeBits old f
  if i = 0 then (if 4 ≤ getBits v 13 3 then putBits v 13 3 (getBits old 13 3) else v)
  else if i = 3 then v &&& 1
  else v

/-- The written UNIT of word 0 is a reserved encoding (R9, R249). -/
def unitRsvd (i : Nat) (old : W32) (f : W32 × W32) : Bool :=
  i = 0 && touches f 13 3 && decide (4 ≤ getBits (mergeBits old f) 13 3)

/-- A word of the route table (R249). -/
def routeStore (rq : Req) (o : Nat) (f : W32 × W32) (s : State) : State :=
  let i := o / 4 % 4
  let s := if unitRsvd i (s.routeWord o) f then s.regRsvd rq (0x400000 + o) else s
  let r := tabGet s.fabric.routes (o / 16) Route.init
  let v : W16 := (routeMerge i (s.routeWord o) f).truncate 16
  let r := if i = 0 then { r with w0 := v } else if i = 1 then { r with w1 := v } else if i = 2 then { r with w2 := v } else { r with w3 := v }
  { s with fabric := { s.fabric with routes := tabPut s.fabric.routes (o / 16) r Route.init } }

/-- A word of the tags, written by a pilot: both entries (R387). -/
def tagStore (n o : Nat) (d : W32) (s : State) : State :=
  (s.setTag n (2 * (o / 4)) (BitVec.ofNat 16 (getBits d 0 16 &&& 0x8FFF))).setTag n (2 * (o / 4) + 1)
    (BitVec.ofNat 16 (getBits d 16 16 &&& 0x8FFF))

/-- SILO_ARG0: KIND 0 and 5 to 15 are reserved encodings (R9, R382). -/
def siloArgStore (rq : Req) (f : W32 × W32) (s : State) : State :=
  let v := mergeBits (s.reg (kSilo 8)) f
  let s := s.setField (kSilo 8) 0 8 (getBits v 0 8)
  if !touches f 8 4 then s
  else if kindOk (getBits v 8 4) then s.setField (kSilo 8) 8 4 (getBits v 8 4)
  else s.regRsvd rq (kSilo 8)

/-- BUDGET.RATE: the bucket has filled at the old rate until now (R378). -/
def budgetStore (f : W32 × W32) (s : State) : State := (bucketTake 0 s).storeBits (kSilo 0x4C) 0xFFFF 0 f

/-- SCRUB.DAYS: 1 to 90 (R379, R382). -/
def scrubStore (rq : Req) (f : W32 × W32) (s : State) : State :=
  let v := getBits (mergeBits (s.reg (kSilo 0x50)) f) 0 8
  if 1 ≤ v && v ≤ 90 then s.setField (kSilo 0x50) 0 8 v else s.regRsvd rq (kSilo 0x50)

/-- Registers of the identity and global block with an effect of their own; the others store their bits. -/
def globStore (rq : Req) (o : Nat) (r : RegSpec) (f : W32 × W32) (s : State) : State :=
  if o = 0x80 then swCtrlStore f s
  else if o = 0x270 then duCmdStore rq f s
  else if o = 0x300 then trustCtrlStore rq f s
  else if o = 0x308 then trustCmdStore rq f s
  else if o = 0x30C then trustArmStore (f.1 &&& f.2) s
  else if o = 0x310 then debugLockStore rq f s
  else if o = 0x400 then blockModeStore rq f s
  else if o = 0x404 then hostErrStore f s
  else if 0x540 ≤ o && o < 0x580 then noteMaskStore ((o - 0x540) / 4) f s
  else s.storeBits o (rwBits rq .glob o r) r.w1c f

/-- Registers of a DMA channel. -/
def dmaStore (rq : Req) (c o : Nat) (f : W32 × W32) (s : State) : State :=
  if o = 0 then dmaCtrlStore rq c f s
  else if o = 4 then (if dmaShut rq c then s else s.storeBits (dkey c 4) 0 0x300 f)
  else if o = 8 || o = 0xC || o = 0x1C || o = 0x20 then dmaBaseStore rq c o f s
  else if o = 0x10 then dmaSizeStore rq c f s
  else if o = 0x14 then dmaTailStore rq c f s
  else s

/-- Registers of the breakwater block. -/
def bwStore (rq : Req) (o : Nat) (r : RegSpec) (f : W32 × W32) (s : State) : State :=
  if o = 0 then bwCtrlStore rq f s
  else if o = 0x20 then (if cmdBit f 0 then ageReplan s else s)
  else if o = 0x30 then calCommand (getBits (f.1 &&& f.2) 0 2) s
  else if o = 0x38 then calKeyStore (f.1 &&& f.2) s
  else s.storeBits (kBw o) r.rw r.w1c f

/-- Registers of a port block. -/
def portStore (rq : Req) (p o : Nat) (r : RegSpec) (f : W32 × W32) (s : State) : State :=
  if o = 0 then portCtrlStore rq p f s
  else if o = 0x40 then s.storeCntCtrl (pkey p 0x40) (pkey p 0x10) 0x28 f
  else s.storeBits (pkey p o) r.rw r.w1c f

/-- Registers of the route-register block. -/
def routeRegStore (o : Nat) (r : RegSpec) (f : W32 × W32) (s : State) : State :=
  if 0x20 ≤ o && o < 0x30 then quenchStore ((o - 0x20) / 4) f s
  else if o = 0x70 then s.storeCntCtrl (kFab 0x70) (kFab 0x30) 0x40 f
  else if o = 0x90 then { s with fabLog := s.fabLog.drop 1 }
  else s.storeBits (kFab o) r.rw r.w1c f

/-- Registers of a quay block. CRANE_CNT_CTRL acts on the six counters of its table, though R73 speaks of seven: the model's
choice (entry 105). -/
def quayStore (rq : Req) (q o : Nat) (r : RegSpec) (f : W32 × W32) (s : State) : State :=
  if o = 4 then qcmdStore rq q f s
  else if o = 8 then logLenStore rq q f (quayAddr q 8) s
  else if o = 0xC then logStartStore q f s
  else if o = 0x20 then faultStatStore q f s
  else if o = 0x30 then patchCtrlStore rq q f s
  else if o = 0x130 then issCtrlStore q f s
  else if o = 0x1D0 then s.storeCntCtrl (qkey q 0x1D0) (qkey q 0x1A0) 0x30 f
  else if o = 0x218 then s.storeCntCtrl (qkey q 0x218) (qkey q 0x208) 0x10 f
  else if 0x400 ≤ o && o < 0x500 then paramStore q ((o - 0x400) / 4) false f s
  else if o = 0x600 then sendRecStore q f s
  else if 0xC00 ≤ o && o < 0xD00 then paramStore q ((o - 0xC00) / 4) true f s
  else if 0xD00 ≤ o then cntHighStore (qkey q (o - 0x800)) f s
  else s.storeBits (qkey q o) r.rw r.w1c f

/-- Registers of the memory-stack block. -/
def stackStore (rq : Req) (o : Nat) (r : RegSpec) (f : W32 × W32) (s : State) : State :=
  if o = 0x110 then { s with eccLog := s.eccLog.drop 1 }
  else if o = 0x200 then repairStore rq f.1 s
  else s.storeBits (kMem o) r.rw r.w1c f

/-- Registers of the silo block. -/
def siloStore (rq : Req) (o : Nat) (r : RegSpec) (f : W32 × W32) (s : State) : State :=
  if o = 4 then siloCmdStore rq f s
  else if o = 8 then siloArgStore rq f s
  else if o = 0x4C then budgetStore f s
  else if o = 0x50 then scrubStore rq f s
  else if o = 0x70 then { s with siloLog := s.siloLog.drop 1 }
  else s.storeBits (kSilo o) r.rw r.w1c f

/-- Registers of the mailbox block. -/
def mboxStore (o : Nat) (r : RegSpec) (f : W32 × W32) (s : State) : State :=
  if o = 0 then mbCtrlStore f s
  else if o = 0x10 then sqTailStore 0 f s
  else if o = 0x18 then sqTailStore 1 f s
  else if o = 0x20 then cqHeadStore f s
  else if o = 0x28 then cqHostStore false f s
  else if o = 0x2C then cqHostStore true f s
  else if o = 0x40 then mirCtrlStore f s
  else if o = 0x48 then (if f.2 = 0 then s else mirRelease (fun m => m.origin.toNat = getBits (f.1 &&& f.2) 0 16) s)
  else if o = 0x68 then lbCtrlStore f s
  else s.storeBits (kMb o) r.rw r.w1c f

/-- Registers of the time base and trace block. -/
def tbStore (rq : Req) (o : Nat) (r : RegSpec) (f : W32 × W32) (s : State) : State :=
  if o = 8 then tbCtrlStore rq f s
  else if o = 0x40 then swsCtrlStore f s
  else if o = 0x80 then traceCtrlStore f s
  else if o = 0x88 || o = 0x8C || o = 0x90 then traceBaseStore rq ((o - 0x80) / 4) f s
  else s.storeBits (kTb o) r.rw r.w1c f

/-- Registers of the always-on block. -/
def aonStore (rq : Req) (o : Nat) (r : RegSpec) (f : W32 × W32) (s : State) : State :=
  if o = 0 then pwrCmdStore rq f s
  else if o = 0x30 then { s with wakeLog := s.wakeLog.drop 1 }
  else s.storeBits (kAon o) r.rw r.w1c f

/-- The effect of written bits on a register. -/
def regStore (rq : Req) (b : Block) (o : Nat) (r : RegSpec) (f : W32 × W32) (s : State) : State :=
  match b with
  | .glob => globStore rq o r f s
  | .msix => msixStore o f.1 s
  | .pba => s
  | .dma c => dmaStore rq c (o % 0x100) f s
  | .chart =>
    if o = 0 then chartCtrlStore rq f s
    else if o = 0x90 then { s with extLog := s.extLog.drop 1 }
    else s.storeBits (kChart o) r.rw r.w1c f
  | .bw => bwStore rq o r f s
  | .port p => portStore rq p o r f s
  | .route => routeStore rq o f s
  | .routeReg => routeRegStore o r f s
  | .quay q => quayStore rq q o r f s
  | .stack => stackStore rq o r f s
  | .tags n => if rq = .pilot then tagStore n o f.1 s else s
  | .silo => siloStore rq o r f s
  | .mbox => mboxStore o r f s
  | .mboxWindow => s
  | .tb => tbStore rq o r f s
  | .aon => aonStore rq o r f s

/-- The value that the windows of R420 combine with the written data: the pending value where one exists (R422). -/
def State.aliasOld (s : State) (b : Block) (o : Nat) : W32 :=
  match b with
  | .quay q =>
    if 0x400 ≤ o && o < 0x500 then s.pendingOf q (qkey q o)
    else if 0xC00 ≤ o && o < 0xD00 then s.pendingOf q (qkey q (o - 0x800)) >>> 16
    else if 0xD00 ≤ o then s.qreg q (o - 0x800) >>> 16
    else s.qreg q o
  | _ => s.reg (keyOf b o)

/-- old OR d, old AND NOT d, old XOR d (R420). -/
def aliasOp (w : Nat) (old d : W32) : W32 :=
  if w = 1 then old ||| d else if w = 2 then old &&& ~~~d else old ^^^ d

/-- The first capture of HOST_ERR since `before` holds the address accessed (R424). -/
def State.capturedAt (before : State) (a : Nat) (s : State) : State :=
  if before.fieldAt 0x404 0 1 = 0 && s.fieldAt 0x404 0 1 = 1 then s.setReg 0x408 (w32 a) else s

/-- A write of one word at a register, plain or through a window (R420, R421): a window acts on RW and RWS fields only. -/
def State.writeReg (s : State) (rq : Req) (b : Block) (o w : Nat) (d : W32) : State :=
  match specAt b o with
  | none => s
  | some r =>
    if w = 0 then regStore rq b o r (writeForm (s.maskBlock b) (wholeWord b o r) d) s
    else
      let m := rwBits rq b o r
      if m = 0 then s else regStore rq b o r (aliasOp w (s.aliasOld b o) d, w32 m) s

/-- Bytes into a memory window. Host writes to the ledgers have no effect: their entries change only in preparation windows
(R341). -/
def State.writeWindow (s : State) (rq : Req) (p : Place) (bytes : List (Option Byte)) : State :=
  match p with
  | .mail a => if rq = .host && 0x1840000 ≤ a then s else { s with windows := s.windows.writeSome a bytes }
  | .cal o => { s with power := { s.power with calStage := s.power.calStage.writeSome o (bytes.take (4096 - o)) } }
  | _ => s

/-! ### Host accesses (R414, R415) -/

/-- A refused host access: abort or AER message, and its code captured. -/
def State.refuse (s : State) (code bar a : Nat) (write : Bool) : State :=
  (s.emit (if write then .aer else .abort)).hostErr .host code bar a

/-- An aligned run of 4 or more bytes. -/
def wordBytes (bytes : List (Option Byte)) : W32 := w32 (leNat (bytes.map (fun b => b.getD 0)))

/-- One aligned DW with all four byte enables. -/
def isWord (a : Nat) (bytes : List (Option Byte)) : Bool := a % 4 = 0 && bytes.length = 4 && bytes.all (·.isSome)

/-- A QW with all enables, for the MSI-X structures. -/
def isQuad (a : Nat) (bytes : List (Option Byte)) : Bool := a % 8 = 0 && bytes.length = 8 && bytes.all (·.isSome)

/-- A region of memory windows, of registers, or of the MSI-X structures, by an access's address alone. -/
def isMsix (a : Nat) : Bool := 0x80000 ≤ a && a < 0xA0000

/-- A host write into BAR0. -/
def State.hostWrite (s : State) (a : Nat) (bytes : List (Option Byte)) : State :=
  if inMail a || inCal a then
    if a % 4 = 0 && bytes.length ≤ 512 then
      match s.hostPlace a with
      | .nowhere => s.refuse 0xC0 0 a true
      | p => s.writeWindow .host p bytes
    else s.refuse 0xC1 0 a true
  else if isWord a bytes then
    match s.hostPlace a with
    | .reg b o w => s.capturedAt a (s.writeReg .host b o w (wordBytes bytes))
    | _ => s.refuse 0xC0 0 a true
  else if isMsix a && isQuad a bytes then
    match s.hostPlace a with
    | .reg b o w => (s.writeReg .host b o w (wordBytes (bytes.take 4))).writeReg .host b (o + 4) w (wordBytes (bytes.drop 4))
    | _ => s.refuse 0xC0 0 a true
  else s.refuse 0xC1 0 a true

/-- A word at a place that reads, and what the read latches. -/
def State.readPlace (s : State) (rq : Req) (p : Place) : State × W32 :=
  match p with
  | .reg b o _ => s.readWord rq b o
  | .pend q o => (s, s.pendView q o)
  | .mail a => (s, w32 (leNat (s.windows.read a 4)))
  | .cal o => (s, w32 (leNat (s.power.calStage.read o 4)))
  | .nowhere => (s, 0)

/-- Two words from a place: an _LO register with its latch or its stored _HI, or a QW of the MSI-X structures. -/
def State.readPair (s : State) (rq : Req) (b : Block) (o : Nat) : State × List Byte :=
  let lo := s.readWord rq b o
  let hi := lo.1.readWord rq b (o + 4)
  (hi.1, leBytes 4 lo.2.toNat ++ leBytes 4 hi.2.toNat)

/-- A two-DW read is accepted at a place: an _LO register aligned to 8 B, or the MSI-X structures (R414). -/
def pairPlace (p : Place) : Bool :=
  match p with
  | .reg b o _ => latchedLo (keyOf b o) || plainLo (keyOf b o) || b = .msix || b = .pba
  | _ => false

/-- Bytes of a memory window. -/
def State.readWindow (s : State) (p : Place) (n : Nat) : List Byte :=
  match p with
  | .mail a => s.windows.read a n
  | .cal o => s.power.calStage.read o (min n (4096 - o))
  | _ => []

/-- A host read from BAR0. -/
def State.hostRead (s : State) (a n : Nat) : State :=
  if inMail a || inCal a then
    if a % 4 = 0 && 1 ≤ n && n ≤ 512 then
      match s.hostPlace a with
      | .nowhere => s.refuse 0xC0 0 a false
      | p => s.emit (.readDone (s.readWindow p n))
    else s.refuse 0xC1 0 a false
  else if a % 4 = 0 && n = 4 then
    match s.hostPlace a with
    | .nowhere => s.refuse 0xC0 0 a false
    | p =>
      let r := s.readPlace .host p
      r.1.emit (.readDone (leBytes 4 r.2.toNat))
  else if a % 8 = 0 && n = 8 then
    match s.hostPlace a with
    | .nowhere => if isMsix a then s.refuse 0xC0 0 a false else s.refuse 0xC1 0 a false
    | .reg b o w =>
      if pairPlace (.reg b o w) then
        let r := s.readPair .host b o
        r.1.emit (.readDone r.2)
      else s.refuse 0xC1 0 a false
    | _ => s.refuse 0xC1 0 a false
  else s.refuse 0xC1 0 a false

/-! ### Pilot and SMBus accesses (R443) -/

/-- A pilot or SMBus write: no fault, and no effect where the offset names no register or a pending view. An access that is
not one whole word has no effect on a register. -/
def State.pilotWrite (s : State) (rq : Req) (a : Nat) (bytes : List (Option Byte)) : State :=
  match s.place rq a with
  | .reg b o w => if isWord a bytes then s.capturedAt a (s.writeReg rq b o w (wordBytes bytes)) else s
  | .mail a => s.writeWindow rq (.mail a) bytes
  | .cal o => s.writeWindow rq (.cal o) bytes
  | _ => s

/-- A pilot or SMBus read of one or two words: 0 where the offset names no register. -/
def State.pilotRead (s : State) (rq : Req) (a n : Nat) : State :=
  match s.place rq a with
  | .reg b o w =>
    if n = 8 && pairPlace (.reg b o w) then
      let r := s.readPair rq b o
      r.1.emit (.readDone r.2)
    else
      let r := s.readPlace rq (.reg b o w)
      r.1.emit (.readDone (slice (leBytes 4 r.2.toNat) 0 n))
  | .mail a => s.emit (.readDone (s.readWindow (.mail a) n))
  | p =>
    let r := s.readPlace rq p
    r.1.emit (.readDone (slice (leBytes 4 r.2.toNat) 0 n))

/-- A write by a class. -/
def State.accessWrite (s : State) (rq : Req) (a : Nat) (bytes : List (Option Byte)) : State :=
  match rq with
  | .host => s.hostWrite a bytes
  | rq => s.pilotWrite rq a bytes

/-- A read by a class. -/
def State.accessRead (s : State) (rq : Req) (a n : Nat) : State :=
  match rq with
  | .host => s.hostRead a n
  | rq => s.pilotRead rq a n

/-- The bytes of a whole word. -/
def fullWord (d : W32) : List (Option Byte) := (leBytes 4 d.toNat).map some

/-- The address of a register in its SET (1), CLEAR (2) or TOGGLE (3) window (R420). -/
def windowAddr (a w : Nat) : Nat := a - a % 0x10000 + a % 0x4000 + w * 0x4000

/-- REG_WRITE. -/
def execRegWrite (rq : Req) (addr : Nat) (bytes : List (Option Byte)) (s : State) : Res := .next (s.accessWrite rq addr bytes)
/-- LO_READ. -/
def execLoRead (rq : Req) (addr len : Nat) (s : State) : Res := .next (s.accessRead rq addr len)
/-- TWO_DW_READ. -/
def execTwoDwRead (rq : Req) (addr : Nat) (s : State) : Res := .next (s.accessRead rq addr 8)
/-- ALIAS_SET. -/
def execAliasSet (rq : Req) (addr : Nat) (data : W32) (s : State) : Res :=
  .next (s.accessWrite rq (windowAddr addr 1) (fullWord data))
/-- ALIAS_CLEAR. -/
def execAliasClear (rq : Req) (addr : Nat) (data : W32) (s : State) : Res :=
  .next (s.accessWrite rq (windowAddr addr 2) (fullWord data))
/-- ALIAS_TOGGLE. -/
def execAliasToggle (rq : Req) (addr : Nat) (data : W32) (s : State) : Res :=
  .next (s.accessWrite rq (windowAddr addr 3) (fullWord data))
/-- BLOCK_MODE_WRITE. -/
def execBlockModeWrite (data : W32) (s : State) : Res := .next (s.accessWrite .host 0x400 (fullWord data))
/-- NOTE_MASK_WRITE. -/
def execNoteMaskWrite (w : Nat) (data : W32) (s : State) : Res :=
  .next (s.accessWrite .host (0x540 + 4 * (w % 16)) (fullWord data))

/-! ### BAR2 (R106, R391, R412, R413) -/

/-- The stack range of a BAR2 request: none where it leaves its space, or names a reserved offset or no enabled quay. -/
def State.bar2Place (s : State) (a n : Nat) : Option Nat :=
  let q := a / 2 ^ 28
  let o := a % 2 ^ 28
  if !s.enabled q then none
  else if o + n ≤ 0x0C000000 then some (stackAddr q 2 o)
  else if 0x0C000000 ≤ o && o + n ≤ 0x0F000000 then some (stackAddr q 1 (o - 0x0C000000))
  else if 0x0F000000 ≤ o && o + n ≤ 0x0F060000 then some (stackAddr q 0 (o - 0x0F000000))
  else none

/-- The code a BAR2 request of n bytes is refused with, if it is: its size, the level SEALED, its place, or its quay's
window being closed. -/
def State.bar2Check (s : State) (a n most : Nat) : Option Nat :=
  if n = 0 || most < n then some 0xC1
  else if s.debugLevel = 2 then some 0xC0
  else if s.fwFault || (s.bar2Place a n).isNone then some 0xC0
  else if !s.stackOpen (a / 2 ^ 28) then some 0xC2
  else none

/-- DEBUG_DENY is logged for a path that SEALED closes (R397). -/
def State.bar2Refuse (s : State) (code a : Nat) (write : Bool) : State :=
  let s := if s.debugLevel = 2 && code = 0xC0 then s.emit (.logged 0xDE) else s
  s.refuse code 1 a write

/-- BAR2_READ: an uncorrectable word aborts it with BUS_ERR (R123). A request whose column has no way over the mesh to the PCIe
controller's corner is discarded on it: it gets no answer (R17, R18). -/
def execBar2Read (addr len : Nat) (s : State) : Res :=
  .next (match s.bar2Check addr len 4096 with
    | some code => s.bar2Refuse code addr false
    | none =>
      let a := (s.bar2Place addr len).getD 0
      if !s.routable hostRouter (saQuay a) then s
      else
        let r := (awaitScrub a (meshAdapt true hostRouter (saQuay a) s)).readStack a len
        if r.2.2.isSome then r.1.refuse 0xC0 1 addr false else r.1.emit (.readDone r.2.1))

/-- The part of a request that falls in one codeword: written whole it is clean, in part it is merged (R109). -/
def writePart (cw a : Nat) (bytes : List (Option Byte)) (s : State) : State :=
  match bytes.findIdx? (·.isSome) with
  | none => s
  | some i =>
    let s := if bytes.length = cw && bytes.all (·.isSome) then s.eccWrite a cw else s.eccWrite (a + i) 1
    s.setMem (s.stack.mem.writeSome a bytes)

/-- Enabled bytes written at a stack address, codeword by codeword (R109, R413). -/
def State.writeEnabled (s : State) (a : Nat) (bytes : List (Option Byte)) : State :=
  let cw := cwBytes a
  (List.range ((a + bytes.length + cw - 1) / cw - a / cw)).foldl (fun s i =>
    let lo := max a ((a / cw + i) * cw)
    let hi := min (a + bytes.length) ((a / cw + i + 1) * cw)
    writePart cw lo ((bytes.drop (lo - a)).take (hi - lo)) s) s

/-- BAR2_WRITE; one without a way over the mesh is discarded (R17, R18). -/
def execBar2Write (addr : Nat) (bytes : List (Option Byte)) (s : State) : Res :=
  .next (match s.bar2Check addr bytes.length 512 with
    | some code => s.bar2Refuse code addr true
    | none =>
      let a := (s.bar2Place addr bytes.length).getD 0
      if !s.routable hostRouter (saQuay a) then s
      else (awaitScrub a (meshAdapt true hostRouter (saQuay a) s)).writeEnabled a bytes)

end Sys2Proof.Machine
end

