-- ==== Sys2Proof/Machine/Board.lean ====
section
/-! DEFINITION. Module hardware: power-up and power-down, PERST#, the PCIe link, the end of the boot, function level reset,
the SMBus port of the always-on island and the bollard pins (R345, R373, R393, R409, R435, R448 to R460). -/

namespace Sys2Proof.Machine

/-- The board record replaced. -/
def State.setBoard (s : State) (b : Board) : State := { s with board := b }

/-! ### Power and resets (R452 to R455) -/

/-- The input passes 50 V: the always-on island starts, and the module goes through a reset of cause POWER_ON with PERST#
asserted; rails and PWR_GOOD follow PWR_EN (R452). -/
def powerOn (s : State) : State :=
  let en := s.board.pwrEn
  let s := moduleReset 0 (islandLost (s.setBoard { s.board with inReset := false }))
  { s.setBoard { s.board with pwrGood := en, perst := true } with stack := Stack.init, chartBuf := [] }

/-- POWER_ON. -/
def execPowerOn (s : State) : Res := .next (powerOn s)

/-- PWR_EN rises: the rails come up and the module goes through a reset of cause POWER_ON (R452, R454). -/
def execPwrEnRise (s : State) : Res :=
  .next (if s.board.pwrEn then s
    else
      let s := moduleReset 0 s
      s.setBoard { s.board with pwrEn := true, pwrGood := true })

/-- PWR_EN falls: only VAON stays live (R454). -/
def execPwrEnFall (s : State) : Res :=
  .next (if s.board.pwrEn then
      let s := railsLost s
      s.setBoard { s.board with pwrEn := false }
    else s)

/-- The input is below 46 V for more than 1 ms (R451). -/
def execPowerLoss (s : State) : Res := .next (islandLost (railsLost s))

/-- PERST# is ignored in S3, and on the way into it or out of it (R453). -/
def State.perstIgnored (s : State) : Bool :=
  match s.power.st with
  | .s3 => true
  | .entering => s.power.target = .s3
  | .exiting => s.power.from' = .s3
  | _ => false

/-- PERST# asserted for 1 µs or more: a module reset (R453). -/
def execPerst (s : State) : Res :=
  .next (let s := if s.perstIgnored || !s.board.pwrGood then s else moduleReset 1 s
    s.setBoard { s.board with perst := true })

/-- PERST# is released (R452 step 5). -/
def execPerstDeassert (s : State) : Res := .next (s.setBoard { s.board with perst := false })

/-- The PCIe link has trained: RATE, WIDTH and FLIT, and DOWNGRADE with PCIE_LINK below 64 GT/s or x16 (R408, R409, R438).
MSI-X is enabled with it: the configuration write that does so has no command (entry 35). -/
def execPcieLinkTrained (rate : BitVec 4) (width : BitVec 5) (s : State) : Res :=
  .next (if s.board.perst then s
    else
      let flit := if rate = 6 then true else Config.freeBool s.free
      let s := if rate = 6 then s else s.useFree
      let s := ((s.setField 0x418 8 4 rate.toNat).setField 0x418 0 5 width.toNat).setField 0x418 12 1 (bit flit)
      let s := s.setBoard { s.board with msixOn := true }
      if rate.toNat < 6 || width.toNat < 16 then (s.orReg 0x418 0x2000).note 171 else s)

/-- A copy of the firmware may run (R393). -/
def State.mayRun (s : State) (f : Firmware) : Bool := f.ok && decide (s.fuses.svnMin ≤ f.svn)

/-- The silo controller chooses the copy that runs: the higher VERSION among those that verify; with none, Yeweric does not
start (R393). -/
def chooseFirmware (s : State) : State :=
  let a := s.mayRun s.silo.fwA
  let b := s.mayRun s.silo.fwB
  let s := if a && b then s else trustEvent 3 s
  if !a && !b then (s.orReg (kMb 4) 0x20).note 173
  else { s with silo := { s.silo with runB := b && (!a || decide (s.silo.fwA.version.toNat < s.silo.fwB.version.toNat)) } }

/-- Slots that were OPEN when the power was lost are reported once (R373). -/
def reportLoss (s : State) : State :=
  match s.silo.lost with
  | none => s
  | some slots =>
    let s := slots.foldl (fun s n => s.slogPush 0xEA n 0) (s.orReg (kSilo 0) 0x20)
    { s with silo := { s.silo with lost := none } }

/-- The parts of the calibration set are checked: the factory's set passes; whether a part of a committed set does is free,
for the checks are not stated (R345, entry 36). -/
def checkCal (s : State) : State :=
  if s.power.calLive.isEmpty then s
  else
    let bad := ((List.range 4).map (fun i => bit (Config.freeBool (s.free + i)) * 2 ^ i)).sum
    let s := { s with free := s.free + 4 }.setField (kBw 0x34) 4 4 bad
    if bad = 0 then s else s.powerCode 0x97

/-- The module runs at its highest point that ageing has not disabled, VCORE at its voltage (R335, R343, R348). -/
def bootPoint (s : State) : State :=
  match (List.range 8).find? (fun p => s.pointOn p) with
  | none => s
  | some p =>
    let mv := s.pointMv p false
    (s.setRail 0 { mv := mv, target := mv, step := none }).runPoint p false

/-- Step 7 of R452: records restored, firmware verified, the silo and Yeweric ready. -/
def bootRestored (s : State) : State :=
  let s := restoreUnits s
  let s := reportLoss (s.orReg (kSilo 0) 1)
  let s := bootPoint (checkCal (chooseFirmware s))
  s.setBoard { s.board with booted := true, inReset := false }

/-- BOOT_RESTORE_DONE. -/
def execBootRestoreDone (s : State) : Res :=
  .next (if s.board.inReset && !s.board.perst && s.board.pwrGood then bootRestored s else s)

/-- The J19 reference is lost: every part of the state is undefined from then on, but for the commands that wait, which lie
outside the module (R455, entry 3). Memories keep the canonical form of their lists, a log holds
at most its 16 entries, and what is staged or armed for PARAM registers is for those. -/
def canonicalMem (m : Mem) : Mem := m.foldl (fun r c => Mem.set r c.1 c.2) []

/-- REFCLK_LOSS. -/
def execRefclkLoss (s : State) : Res :=
  .next (let t := Config.undefinedState s.free
    { t with
      stack := { t.stack with mem := canonicalMem t.stack.mem, logbook := canonicalMem t.stack.logbook },
      chartBuf := canonicalMem t.chartBuf, windows := canonicalMem t.windows,
      silo := { t.silo with mem := canonicalMem t.silo.mem },
      power := { t.power with calLive := canonicalMem t.power.calLive, calStage := canonicalMem t.power.calStage,
                              calNext := t.power.calNext.map canonicalMem },
      eccLog := t.eccLog.take 16, extLog := t.extLog.take 16, fabLog := t.fabLog.take 16, wakeLog := t.wakeLog.take 16,
      siloLog := t.siloLog.take 16, staged := t.staged.filter (fun p => paramKey p.1),
      quays := t.quays.map (fun p => (p.1, { p.2 with
        armed := p.2.armed.filter (fun b => b.1.all (fun v => paramKey v.1)) })),
      out := s.out, free := s.free + 1, pending := s.pending })

/-! ### Function level reset (R435) -/

/-- FLR: configuration space with the MSI-X table, channels 0 to 11, the notification masks and vectors, and HOST_ERR. -/
def execFlr (s : State) : Res :=
  .next (let s := (s.resetRegs 0x80000 0x20000).resetRegs (dkey 0 0) 0xC00
    let s := ((s.resetRegs 0x404 0x14).resetRegs (kNoteMask 0) 0x40).resetRegs (kNoteVec 0) 0x400
    let s := (List.range 12).foldl (fun s c => s.setChan c Chan.init) s
    s.setBoard { s.board with msixOn := false })

/-! ### Bollard pins (R458 to R460) -/

/-- The functions a pin allows (R458). -/
def pinAllows (pin fn : Nat) : Bool :=
  fn = 0 || fn = 1 || fn = 2 || (fn = 3 && pin < 2) || (fn = 4 && 2 ≤ pin && pin < 6) ||
  ((fn = 5 || fn = 6 || fn = 7) && (pin = 6 || pin = 7))

/-- The pins of a group function: UART B0 and B1, DEBUG B2 to B5 (R459). -/
def pinGroup (fn : Nat) : List Nat := if fn = 3 then [0, 1] else if fn = 4 then [2, 3, 4, 5] else []

/-- A pin's function is in effect: it is not parked, every pin of its group holds the function, and DEBUG is open. -/
def State.pinActive (s : State) (i : Nat) : Bool :=
  let x := s.pin i
  x.next.isNone && (pinGroup x.fn).all (fun j => (s.pin j).fn = x.fn && (s.pin j).next.isNone) &&
  !(x.fn = 4 && 1 ≤ s.debugLevel)

/-- The function that a pin holds or is about to take. -/
def Pin.code (x : Pin) : Nat := match x.next with
  | some n => n.1
  | none => x.fn

/-- A pin is given a function: it parks for 4 aclk from the next aclk edge. A parked pin only has its pending function
replaced (R460). -/
def pinConfigure (i fn : Nat) (s : State) : State :=
  let x := s.pin i
  match x.next with
  | some (_, t) => s.setPin i { x with next := some (fn, t) }
  | none =>
    if x.fn = fn then s
    else s.setPin i { x with fn := 0, next := some (fn, s.aclkNext + 40) }

/-- PIN_CFG: codes and functions that the pin does not allow are NACKed (R457, R459). -/
def execPinCfg (pin fn : Byte) (s : State) : Res :=
  .next (if pin.toNat < 8 && pinAllows pin.toNat fn.toNat then pinConfigure pin.toNat fn.toNat s else s.emit .smbNack)

/-- The park of a pin ends: it takes its function (R460). -/
def execPinParkEnd (pin : Nat) (s : State) : Res :=
  .next (let i := pin % 8
    match (s.pin i).next with
    | none => s
    | some (fn, t) =>
      let s := s.passTo t
      s.setPin i { s.pin i with fn := fn, next := none })

/-- The level of a pin: what GPIO_OUT drives, else what the board drives on it, which lies outside the module (entry 3). -/
def State.pinLevel (s : State) (i : Nat) : Bool :=
  if (s.pin i).fn = 2 && s.pinActive i then (s.pin i).out else Config.freeBool (s.free + i)

/-- Eight flags as a byte. -/
def flagByte (f : Nat → Bool) : Byte := BitVec.ofNat 8 (((List.range 8).map (fun i => bit (f i) * 2 ^ i)).sum)

/-- PIN_GET: function codes, input levels and active flags (R457, R459). -/
def execPinGet (s : State) : Res :=
  .next (let bytes := (List.range 8).map (fun i => BitVec.ofNat 8 (s.pin i).code) ++ [flagByte s.pinLevel, flagByte s.pinActive]
    { s with free := s.free + 8 }.emit (.readDone bytes))

/-- GPIO_SET: the output levels of the masked pins that are in GPIO_OUT (R457, R459). -/
def execGpioSet (mask level : Byte) (s : State) : Res :=
  .next ((List.range 8).foldl (fun s i =>
    if mask.getLsbD i && (s.pin i).code = 2 then s.setPin i { s.pin i with out := level.getLsbD i } else s) s)

/-- STROBE_TS: the stamp of the last capture (R457). -/
def execStrobeTs (s : State) : Res := .next (s.emit (.readDone (leBytes 8 s.board.strobe.toNat)))

/-- A rising edge on a pin in STROBE_IN captures the start of the aclk that holds it (R459, R460). -/
def execStrobeInEdge (pin : Nat) (s : State) : Res :=
  .next (if (s.pin (pin % 8)).fn = 7 && s.pinActive (pin % 8) then
      s.setBoard { s.board with strobe := s.aclkStart }
    else s)

/-- TAP activity on pins set to DEBUG while the debug function is closed logs DEBUG_DENY once per lock period (R397,
R459). -/
def execTapActivity (s : State) : Res :=
  .next (if (List.range 8).any (fun i => (s.pin i).code = 4) && 1 ≤ s.debugLevel && !s.board.tapDenied then
      (s.emit (.logged 0xDE)).setBoard { s.board with tapDenied := true }
    else s)

/-! ### The sideband outputs (R449) -/

/-- SMB_ALERT# is driven low. -/
def State.smbAlert (s : State) : Bool := !s.wakeLog.isEmpty || s.power.st = .trip
/-- THERM_TRIP# is driven low. -/
def State.thermTripLow (s : State) : Bool := s.power.st = .trip

/-! ### SMBus registers and commands (R443, R457) -/

/-- The address of an always-on register that an SMBus offset names. -/
def smbAddr (ofs : W16) : Nat := 0x1E00000 + ofs.toNat

/-- READ_REG. -/
def execReadReg (ofs : W16) (s : State) : Res := .next (s.accessRead .smbus (smbAddr ofs) 4)
/-- WRITE_REG. -/
def execWriteReg (ofs : W16) (data : W32) (s : State) : Res :=
  .next (s.accessWrite .smbus (smbAddr ofs - smbAddr ofs % 4) (fullWord data))
/-- WAKE: wake source 2. -/
def execSmbusWake (s : State) : Res := .next (s.wake 2)
/-- RESET: 0xA5 is a module reset of cause SMBUS. -/
def execSmbusReset (arg : Byte) (s : State) : Res := .next (if arg = 0xA5 then moduleReset 2 s else s.emit .smbNack)
/-- WLOG_POP. -/
def execWlogPop (s : State) : Res := .next { s with wakeLog := s.wakeLog.drop 1 }

end Sys2Proof.Machine
end

