-- ==== Sys2Proof/Machine/Dispatch.lean ====
section
/-! DEFINITION. The meaning of each command: one direct call per row of spec/opcode_table.json. -/

namespace Sys2Proof.Machine

/-- The effect of a command on everything but the queue. -/
def exec (i : Instr) (s : State) : Host.Outcome State Fault Refusal :=
  match i with
  | .nop q => Sys2Proof.Machine.execNop q s
  | .nopHoldEnd q => Sys2Proof.Machine.execNopHoldEnd q s
  | .halt q => Sys2Proof.Machine.execHalt q s
  | .wtide q => Sys2Proof.Machine.execWtide q s
  | .wtideOffsetReached q => Sys2Proof.Machine.execWtideOffsetReached q s
  | .waitc q => Sys2Proof.Machine.execWaitc q s
  | .waitcRelease q => Sys2Proof.Machine.execWaitcRelease q s
  | .waitTmo q => Sys2Proof.Machine.execWaitTmo q s
  | .fence q => Sys2Proof.Machine.execFence q s
  | .fenceRelease q => Sys2Proof.Machine.execFenceRelease q s
  | .pset q => Sys2Proof.Machine.execPset q s
  | .padd q => Sys2Proof.Machine.execPadd q s
  | .cntSet q => Sys2Proof.Machine.execCntSet q s
  | .cntAdd q => Sys2Proof.Machine.execCntAdd q s
  | .cntClr q => Sys2Proof.Machine.execCntClr q s
  | .cntGetc q => Sys2Proof.Machine.execCntGetc q s
  | .cntGetf q => Sys2Proof.Machine.execCntGetf q s
  | .cmpb q => Sys2Proof.Machine.execCmpb q s
  | .mov q => Sys2Proof.Machine.execMov q s
  | .gantryStart q g => Sys2Proof.Machine.execGantryStart q g s
  | .movDone q g => Sys2Proof.Machine.execMovDone q g s
  | .sendWrite q => Sys2Proof.Machine.execSendWrite q s
  | .sendRead q => Sys2Proof.Machine.execSendRead q s
  | .mmaOw q => Sys2Proof.Machine.execMmaOw q s
  | .mmaAc q => Sys2Proof.Machine.execMmaAc q s
  | .mmaLdo q => Sys2Proof.Machine.execMmaLdo q s
  | .mmaLda q => Sys2Proof.Machine.execMmaLda q s
  | .mmaDr q => Sys2Proof.Machine.execMmaDr q s
  | .streamBehindTileLoad q crane => Sys2Proof.Machine.execStreamBehindTileLoad q crane s
  | .mmaDone q crane => Sys2Proof.Machine.execMmaDone q crane s
  | .vch q => Sys2Proof.Machine.execVch q s
  | .vcmp q => Sys2Proof.Machine.execVcmp q s
  | .vexp q => Sys2Proof.Machine.execVexp q s
  | .veStart q => Sys2Proof.Machine.execVeStart q s
  | .veDone q => Sys2Proof.Machine.execVeDone q s
  | .sbOvf q => Sys2Proof.Machine.execSbOvf q s
  | .qcmdStop q => Sys2Proof.Machine.execQcmdStop q s
  | .qcmdResume q atTide => Sys2Proof.Machine.execQcmdResume q atTide s
  | .qcmdRestart q atTide => Sys2Proof.Machine.execQcmdRestart q atTide s
  | .qcmdReset q => Sys2Proof.Machine.execQcmdReset q s
  | .quayResetDone q => Sys2Proof.Machine.execQuayResetDone q s
  | .quayDrainDone q => Sys2Proof.Machine.execQuayDrainDone q s
  | .logLenWrite rq q data => Sys2Proof.Machine.execLogLenWrite rq q data s
  | .logStartWrite rq q data => Sys2Proof.Machine.execLogStartWrite rq q data s
  | .paramWrite rq q idx upper data => Sys2Proof.Machine.execParamWrite rq q idx upper data s
  | .armingPoint => Sys2Proof.Machine.execArmingPoint s
  | .sendRecDrop0 q => Sys2Proof.Machine.execSendRecDrop0 q s
  | .sendRecDrop1 q => Sys2Proof.Machine.execSendRecDrop1 q s
  | .craneCntClr q => Sys2Proof.Machine.execCraneCntClr q s
  | .veCntClr q => Sys2Proof.Machine.execVeCntClr q s
  | .issCntClr q => Sys2Proof.Machine.execIssCntClr q s
  | .portCntClr p => Sys2Proof.Machine.execPortCntClr p s
  | .fabCntClr => Sys2Proof.Machine.execFabCntClr s
  | .eccWriteback space q ofs => Sys2Proof.Machine.execEccWriteback space q ofs s
  | .scrubLine q => Sys2Proof.Machine.execScrubLine q s
  | .thermSample temp hotCol => Sys2Proof.Machine.execThermSample temp hotCol s
  | .refreshSlot q => Sys2Proof.Machine.execRefreshSlot q s
  | .refreshForced q => Sys2Proof.Machine.execRefreshForced q s
  | .refreshWindow w => Sys2Proof.Machine.execRefreshWindow w s
  | .refLate q slot => Sys2Proof.Machine.execRefLate q slot s
  | .zeroContainerDone q slot => Sys2Proof.Machine.execZeroContainerDone q slot s
  | .repairCmdGo data => Sys2Proof.Machine.execRepairCmdGo data s
  | .repairDone => Sys2Proof.Machine.execRepairDone s
  | .eccLogPop => Sys2Proof.Machine.execEccLogPop s
  | .scrubDone q => Sys2Proof.Machine.execScrubDone q s
  | .chartEn buf => Sys2Proof.Machine.execChartEn buf s
  | .switch buf => Sys2Proof.Machine.execSwitch buf s
  | .chartStop => Sys2Proof.Machine.execChartStop s
  | .chartCheckDone => Sys2Proof.Machine.execChartCheckDone s
  | .checkTmo => Sys2Proof.Machine.execCheckTmo s
  | .chartLoadDone map stripes => Sys2Proof.Machine.execChartLoadDone map stripes s
  | .chartStart => Sys2Proof.Machine.execChartStart s
  | .switchDrainDone => Sys2Proof.Machine.execSwitchDrainDone s
  | .chartStopDone => Sys2Proof.Machine.execChartStopDone s
  | .tideBoundary => Sys2Proof.Machine.execTideBoundary s
  | .phaseStart counts => Sys2Proof.Machine.execPhaseStart counts s
  | .elasticHold => Sys2Proof.Machine.execElasticHold s
  | .decisionPoint => Sys2Proof.Machine.execDecisionPoint s
  | .applyPoint => Sys2Proof.Machine.execApplyPoint s
  | .extLogPop => Sys2Proof.Machine.execExtLogPop s
  | .portEnWrite p en => Sys2Proof.Machine.execPortEnWrite p en s
  | .reseed p => Sys2Proof.Machine.execReseed p s
  | .retrain p => Sys2Proof.Machine.execRetrain p s
  | .lashWrite p size => Sys2Proof.Machine.execLashWrite p size s
  | .partnerDetect p lanes => Sys2Proof.Machine.execPartnerDetect p lanes s
  | .seedDone p => Sys2Proof.Machine.execSeedDone p s
  | .eqConverged p learned => Sys2Proof.Machine.execEqConverged p learned s
  | .alignDone p r => Sys2Proof.Machine.execAlignDone p r s
  | .trainStateTimeout p => Sys2Proof.Machine.execTrainStateTimeout p s
  | .detectRetry p => Sys2Proof.Machine.execDetectRetry p s
  | .recoveryAttemptFail p => Sys2Proof.Machine.execRecoveryAttemptFail p s
  | .recoveryDone p r => Sys2Proof.Machine.execRecoveryDone p r s
  | .linkDrop p why => Sys2Proof.Machine.execLinkDrop p why s
  | .flitRx p flit corrected uncorrectable => Sys2Proof.Machine.execFlitRx p flit corrected uncorrectable s
  | .tbLoad => Sys2Proof.Machine.execTbLoad s
  | .tbRoleWrite role => Sys2Proof.Machine.execTbRoleWrite role s
  | .syncInEdge => Sys2Proof.Machine.execSyncInEdge s
  | .syncOutPulse => Sys2Proof.Machine.execSyncOutPulse s
  | .syncExchange frac => Sys2Proof.Machine.execSyncExchange frac s
  | .syncReqRx p => Sys2Proof.Machine.execSyncReqRx p s
  | .syncRspRx p notReady t2 t3 t4 => Sys2Proof.Machine.execSyncRspRx p notReady t2 t3 t4 s
  | .holdoverTimeout => Sys2Proof.Machine.execHoldoverTimeout s
  | .extensionNoticeRx p boundary e stamp clamp => Sys2Proof.Machine.execExtensionNoticeRx p boundary e stamp clamp s
  | .lpiBurst p => Sys2Proof.Machine.execLpiBurst p s
  | .lpiBeaconRx p lpi => Sys2Proof.Machine.execLpiBeaconRx p lpi s
  | .wakeFrameRx p => Sys2Proof.Machine.execWakeFrameRx p s
  | .writeRx src k => Sys2Proof.Machine.execWriteRx src k s
  | .readReqRx src k => Sys2Proof.Machine.execReadReqRx src k s
  | .readRspRx src k => Sys2Proof.Machine.execReadRspRx src k s
  | .ackRx src k => Sys2Proof.Machine.execAckRx src k s
  | .nackRx src k => Sys2Proof.Machine.execNackRx src k s
  | .quenchRx src k => Sys2Proof.Machine.execQuenchRx src k s
  | .unquenchRx src k => Sys2Proof.Machine.execUnquenchRx src k s
  | .ctrlWakeRx src k => Sys2Proof.Machine.execCtrlWakeRx src k s
  | .yewericMessageRx src k => Sys2Proof.Machine.execYewericMessageRx src k s
  | .packetForward src k => Sys2Proof.Machine.execPacketForward src k s
  | .completionTimeout unit tag => Sys2Proof.Machine.execCompletionTimeout unit tag s
  | .ackGatherEnd eid sunit => Sys2Proof.Machine.execAckGatherEnd eid sunit s
  | .e2eResend unit tag => Sys2Proof.Machine.execE2eResend unit tag s
  | .stranded p tag => Sys2Proof.Machine.execStranded p tag s
  | .quenchRegWrite k data => Sys2Proof.Machine.execQuenchRegWrite k data s
  | .flogPop => Sys2Proof.Machine.execFlogPop s
  | .sqTailWrite ring data => Sys2Proof.Machine.execSqTailWrite ring data s
  | .cqHeadWrite data => Sys2Proof.Machine.execCqHeadWrite data s
  | .mbReset => Sys2Proof.Machine.execMbReset s
  | .mbEnWrite en => Sys2Proof.Machine.execMbEnWrite en s
  | .cqHostWrite hi data => Sys2Proof.Machine.execCqHostWrite hi data s
  | .submit ring desc prompt => Sys2Proof.Machine.execSubmit ring desc prompt s
  | .cancel ring waiting => Sys2Proof.Machine.execCancel ring waiting s
  | .park ring => Sys2Proof.Machine.execPark ring s
  | .unpark ring => Sys2Proof.Machine.execUnpark ring s
  | .query ring ok => Sys2Proof.Machine.execQuery ring ok s
  | .setPrio ring => Sys2Proof.Machine.execSetPrio ring s
  | .mbQuench ring => Sys2Proof.Machine.execMbQuench ring s
  | .mbUnquench ring => Sys2Proof.Machine.execMbUnquench ring s
  | .serveConfig ring manifest => Sys2Proof.Machine.execServeConfig ring manifest s
  | .mbNop ring => Sys2Proof.Machine.execMbNop ring s
  | .mbWake ring => Sys2Proof.Machine.execMbWake ring s
  | .prepWindow failed => Sys2Proof.Machine.execPrepWindow failed s
  | .parkVerified b => Sys2Proof.Machine.execParkVerified b s
  | .unparkLoaded b => Sys2Proof.Machine.execUnparkLoaded b s
  | .unparkReadFail b => Sys2Proof.Machine.execUnparkReadFail b s
  | .mirrorCopy b k refused lost => Sys2Proof.Machine.execMirrorCopy b k refused lost s
  | .mirPartnerWrite data => Sys2Proof.Machine.execMirPartnerWrite data s
  | .mirDrop origin => Sys2Proof.Machine.execMirDrop origin s
  | .adoptFetchDone b whole => Sys2Proof.Machine.execAdoptFetchDone b whole s
  | .lbArm => Sys2Proof.Machine.execLbArm s
  | .lbDisarm => Sys2Proof.Machine.execLbDisarm s
  | .swWrite data => Sys2Proof.Machine.execSwWrite data s
  | .swChangeDone => Sys2Proof.Machine.execSwChangeDone s
  | .swsArm => Sys2Proof.Machine.execSwsArm s
  | .swsDisarm => Sys2Proof.Machine.execSwsDisarm s
  | .swsClose => Sys2Proof.Machine.execSwsClose s
  | .swsQuietCheck => Sys2Proof.Machine.execSwsQuietCheck s
  | .swsDividerRestart => Sys2Proof.Machine.execSwsDividerRestart s
  | .swsFifoReset => Sys2Proof.Machine.execSwsFifoReset s
  | .swsMarkerSend => Sys2Proof.Machine.execSwsMarkerSend s
  | .swsLatencyFix => Sys2Proof.Machine.execSwsLatencyFix s
  | .swsReopen => Sys2Proof.Machine.execSwsReopen s
  | .portRealign p => Sys2Proof.Machine.execPortRealign p s
  | .pwrCmdA0 => Sys2Proof.Machine.execPwrCmdA0 s
  | .pwrCmdA1 => Sys2Proof.Machine.execPwrCmdA1 s
  | .pwrCmdS1 => Sys2Proof.Machine.execPwrCmdS1 s
  | .pwrCmdS2 => Sys2Proof.Machine.execPwrCmdS2 s
  | .pwrCmdS3 => Sys2Proof.Machine.execPwrCmdS3 s
  | .sleepEntryDone => Sys2Proof.Machine.execSleepEntryDone s
  | .wakeTimer => Sys2Proof.Machine.execWakeTimer s
  | .pinWake pin => Sys2Proof.Machine.execPinWake pin s
  | .wakeSlotEnd => Sys2Proof.Machine.execWakeSlotEnd s
  | .quayGroupPowerGood g => Sys2Proof.Machine.execQuayGroupPowerGood g s
  | .sleepExitDone => Sys2Proof.Machine.execSleepExitDone s
  | .avsStep rail acks => Sys2Proof.Machine.execAvsStep rail acks s
  | .avsVdone rail => Sys2Proof.Machine.execAvsVdone rail s
  | .avsTmo rail => Sys2Proof.Machine.execAvsTmo rail s
  | .pmbusPoll input rails => Sys2Proof.Machine.execPmbusPoll input rails s
  | .estimateWindow counts => Sys2Proof.Machine.execEstimateWindow counts s
  | .capWrite data => Sys2Proof.Machine.execCapWrite data s
  | .learnReset => Sys2Proof.Machine.execLearnReset s
  | .droop mv => Sys2Proof.Machine.execDroop mv s
  | .droopEnd => Sys2Proof.Machine.execDroopEnd s
  | .thermTrip => Sys2Proof.Machine.execThermTrip s
  | .a1GateOffset => Sys2Proof.Machine.execA1GateOffset s
  | .ageReplan => Sys2Proof.Machine.execAgeReplan s
  | .ageMargin worst margin => Sys2Proof.Machine.execAgeMargin worst margin s
  | .replanDone offsets disabled margin worst => Sys2Proof.Machine.execReplanDone offsets disabled margin worst s
  | .calLoad => Sys2Proof.Machine.execCalLoad s
  | .calCaptureEq => Sys2Proof.Machine.execCalCaptureEq s
  | .calCommit => Sys2Proof.Machine.execCalCommit s
  | .calKeyWrite data => Sys2Proof.Machine.execCalKeyWrite data s
  | .calCmdDone => Sys2Proof.Machine.execCalCmdDone s
  | .retireQuay q => Sys2Proof.Machine.execRetireQuay q s
  | .retireRouter r => Sys2Proof.Machine.execRetireRouter r s
  | .retirePort p => Sys2Proof.Machine.execRetirePort p s
  | .duPersistDone ok => Sys2Proof.Machine.execDuPersistDone ok s
  | .portDistRecomputeDone => Sys2Proof.Machine.execPortDistRecomputeDone s
  | .siloCreate => Sys2Proof.Machine.execSiloCreate s
  | .siloSeal => Sys2Proof.Machine.execSiloSeal s
  | .siloErase => Sys2Proof.Machine.execSiloErase s
  | .siloSaveRepair => Sys2Proof.Machine.execSiloSaveRepair s
  | .siloCmdDone => Sys2Proof.Machine.execSiloCmdDone s
  | .siloScrubPass => Sys2Proof.Machine.execSiloScrubPass s
  | .siloScrubPassEnd => Sys2Proof.Machine.execSiloScrubPassEnd s
  | .siloProgFail sparePct address => Sys2Proof.Machine.execSiloProgFail sparePct address s
  | .slogPop => Sys2Proof.Machine.execSlogPop s
  | .installFw slot => Sys2Proof.Machine.execInstallFw slot s
  | .installKey slot keyidx => Sys2Proof.Machine.execInstallKey slot keyidx s
  | .revokeKey keyidx => Sys2Proof.Machine.execRevokeKey keyidx s
  | .raiseSvn => Sys2Proof.Machine.execRaiseSvn s
  | .trustArmWrite data => Sys2Proof.Machine.execTrustArmWrite data s
  | .debugLockWrite rq data => Sys2Proof.Machine.execDebugLockWrite rq data s
  | .trustCmdDone => Sys2Proof.Machine.execTrustCmdDone s
  | .regWrite rq addr bytes => Sys2Proof.Machine.execRegWrite rq addr bytes s
  | .loRead rq addr len => Sys2Proof.Machine.execLoRead rq addr len s
  | .twoDwRead rq addr => Sys2Proof.Machine.execTwoDwRead rq addr s
  | .aliasSet rq addr data => Sys2Proof.Machine.execAliasSet rq addr data s
  | .aliasClear rq addr data => Sys2Proof.Machine.execAliasClear rq addr data s
  | .aliasToggle rq addr data => Sys2Proof.Machine.execAliasToggle rq addr data s
  | .blockModeWrite data => Sys2Proof.Machine.execBlockModeWrite data s
  | .noteMaskWrite w data => Sys2Proof.Machine.execNoteMaskWrite w data s
  | .bar2Read addr len => Sys2Proof.Machine.execBar2Read addr len s
  | .bar2Write addr bytes => Sys2Proof.Machine.execBar2Write addr bytes s
  | .dmaEnWrite c en => Sys2Proof.Machine.execDmaEnWrite c en s
  | .dmaAbort c => Sys2Proof.Machine.execDmaAbort c s
  | .dmaSkip c => Sys2Proof.Machine.execDmaSkip c s
  | .dmaRestart c => Sys2Proof.Machine.execDmaRestart c s
  | .dmaTailWrite c data => Sys2Proof.Machine.execDmaTailWrite c data s
  | .descXfer c desc data => Sys2Proof.Machine.execDescXfer c desc data s
  | .descCall c desc => Sys2Proof.Machine.execDescCall c desc s
  | .descJump c desc => Sys2Proof.Machine.execDescJump c desc s
  | .descEnd c desc => Sys2Proof.Machine.execDescEnd c desc s
  | .xferComplete c => Sys2Proof.Machine.execXferComplete c s
  | .flr => Sys2Proof.Machine.execFlr s
  | .traceEnWrite en => Sys2Proof.Machine.execTraceEnWrite en s
  | .readReg ofs => Sys2Proof.Machine.execReadReg ofs s
  | .writeReg ofs data => Sys2Proof.Machine.execWriteReg ofs data s
  | .smbusReset arg => Sys2Proof.Machine.execSmbusReset arg s
  | .pinCfg pin fn => Sys2Proof.Machine.execPinCfg pin fn s
  | .pinParkEnd pin => Sys2Proof.Machine.execPinParkEnd pin s
  | .gpioSet mask level => Sys2Proof.Machine.execGpioSet mask level s
  | .strobeInEdge pin => Sys2Proof.Machine.execStrobeInEdge pin s
  | .pcieLinkTrained rate width => Sys2Proof.Machine.execPcieLinkTrained rate width s
  | .powerOn => Sys2Proof.Machine.execPowerOn s
  | .pwrEnRise => Sys2Proof.Machine.execPwrEnRise s
  | .pwrEnFall => Sys2Proof.Machine.execPwrEnFall s
  | .powerLoss => Sys2Proof.Machine.execPowerLoss s
  | .perst => Sys2Proof.Machine.execPerst s
  | .smbusWake => Sys2Proof.Machine.execSmbusWake s
  | .pinGet => Sys2Proof.Machine.execPinGet s
  | .strobeTs => Sys2Proof.Machine.execStrobeTs s
  | .wlogPop => Sys2Proof.Machine.execWlogPop s
  | .perstDeassert => Sys2Proof.Machine.execPerstDeassert s
  | .bootRestoreDone => Sys2Proof.Machine.execBootRestoreDone s
  | .refclkLoss => Sys2Proof.Machine.execRefclkLoss s
  | .tapActivity => Sys2Proof.Machine.execTapActivity s

end Sys2Proof.Machine
end

