-- ==== Sys2Proof/Safety.lean ====
section
/-! DEFINITION. What every state of a safe run satisfies: the memories of the module are in canonical form, so that equal
contents are equal data, and no log FIFO holds more than its 16 entries; and the classes of register keys that the
shared operations may write, in whose terms the claims of Certificates say what a command leaves unchanged. -/

namespace Sys2Proof.Machine

/-- The memories behind addresses are in canonical form (entry 2): the stack, the logbooks, the chart buffers, the
mailbox windows and the silo. -/
def State.memOk (s : State) : Bool :=
  Mem.wf s.stack.mem && Mem.wf s.stack.logbook && Mem.wf s.chartBuf && Mem.wf s.windows && Mem.wf s.silo.mem

/-- No log FIFO holds more than 16 entries (R133, R216, R264, R349, R382). -/
def State.logsOk (s : State) : Bool :=
  decide (s.eccLog.length ≤ 16) && decide (s.extLog.length ≤ 16) && decide (s.fabLog.length ≤ 16) &&
  decide (s.wakeLog.length ≤ 16) && decide (s.siloLog.length ≤ 16)

/-- Staged values, and those of a batch fixed at an arming point, are of parameter registers (R174, R422). -/
def State.batchesOk (s : State) : Bool :=
  s.staged.all (fun p => paramKey p.1) && s.quays.all (fun p => p.2.armed.all (fun b => b.1.all (fun v => paramKey v.1)))

/-- The keys that an occurring notification source may write: NOTE_STAT0-15 and the MSI-X pending bits (R426). -/
def noteKey (k : Nat) : Bool := (decide (0x500 ≤ k) && decide (k < 0x540)) || (decide (0x90000 ≤ k) && decide (k < 0x90100))

/-- The keys that a trace record may write: TRACE_STATUS, TRACE_HEAD and TRACE_DROPPED (R445). -/
def traceKey (k : Nat) : Bool := k == 0x1C00084 || k == 0x1C00094 || k == 0x1C0009C

/-- The keys that an error capture may write: HOST_ERR, ERR_ADDR_LO, ERR_ADDR_HI and those of its source 171 (R424). -/
def errKey (k : Nat) : Bool := k == 0x404 || k == 0x408 || k == 0x40C || noteKey k

/-- Notification source i shows its status bit (R425). -/
def State.noted (t : State) (i : Nat) : Prop := getBits (t.reg (kNoteStat (i / 16))) (i % 16) 1 = 1

/-! ### Quay instructions: when they issue and what issue leaves -/

/-- The instruction word at the program counter of quay q (R134, R159). -/
def State.wordAt (s : State) (q : Nat) : W128 := s.logWord q (s.quay q).pc.toNat

/-- Quay q is in RUN with no hold in force, its program counter names an instruction of its program that fetches clean,
that instruction has operation `op`, and it passes the checks of R138 with the adjusted word `w` (R136, R162, R171). -/
def State.readyAt (s : State) (q : Nat) (op : Op) (w : W128) : Prop :=
  s.enabled q = true ∧ (s.quay q).st = .run ∧ (s.quay q).hold = .none ∧ (s.quay q).pc.toNat < 4096 ∧
  (s.quay q).pc.toNat < s.logLen q ∧ s.logMarks q (s.quay q).pc.toNat = [] ∧
  opOfCode (wf (s.wordAt q) 0 8) = some op ∧ step2 op (s.wordAt q) = none ∧
  adjustWord s q op (s.wordAt q) = (w, none) ∧ step4 s q op w = none

/-- An issue counter of quay q after n more counts, unless ISS_CNT_CTRL.HOLD stops it (R185). -/
def State.issueCountAfter (s : State) (q i n : Nat) : W64 :=
  if getBits (s.reg (qkey q 0x130)) 1 1 = 1 then s.cnt64 (qkey q (0x100 + 8 * i))
  else s.cnt64 (qkey q (0x100 + 8 * i)) + w64 n

/-- The quay after its instruction has issued: the program counter at `pc`, the next serial, nothing that holds issue, and no
patch left from this qclk (R152). -/
def Quay.afterIssue (x : Quay) (pc : BitVec 13) : Quay :=
  { x with pc := pc, hold := .none, stall := .none, confHeld := 0, nextId := x.nextId + 1, patched := [] }

/-- What an instruction that writes v leaves in PARAMi: a patch of the same qclk wins (R152). -/
def State.paramAfter (s : State) (q i : Nat) (v : W32) : W32 :=
  if i ∈ (s.quay q).patched then s.reg (kParam q i) else v

/-- t is s with the instruction of quay q issued and nothing else changed but the registers of `keys` (R159, R163, R185):
the program counter at the next instruction, ISSUED + 1 unless held, every other quay and counter as before. -/
def State.issuesTo (s t : State) (q : Nat) (keys : List Nat) : Prop :=
  t = { s with regs := t.regs, c64 := t.c64, quays := t.quays } ∧
  (∀ k, k ∉ keys → t.reg k = s.reg k) ∧
  t.cnt64 (qkey q 0x100) = s.issueCountAfter q 0 1 ∧ (∀ k, k ≠ qkey q 0x100 → t.cnt64 k = s.cnt64 k) ∧
  t.quay q = (s.quay q).afterIssue ((s.quay q).pc + 1) ∧ (∀ q', q' ≠ q → t.quay q' = s.quay q')

/-- t is s with issue of quay q held by h, the instruction not yet issued, and nothing else changed (R162, R177). -/
def State.holdsTo (s t : State) (q : Nat) (h : Hold) : Prop :=
  t = { s with quays := t.quays } ∧ t.quay q = { s.quay q with hold := h, stall := .none, confHeld := 0 } ∧
  (∀ q', q' ≠ q → t.quay q' = s.quay q')

/-- t is s with the first fault of quay q recorded: FAULT_STAT, FAULT_INFO and FAULT_TS, issue ended with the program
counter on FAULT_PC, and nothing else changed (R179, R180, R184, R185). -/
def State.faultsTo (s t : State) (q code pc info : Nat) (precise : Bool) : Prop :=
  t = { s with regs := t.regs, c64 := t.c64, quays := t.quays } ∧
  t.reg (qkey q 0x20) = w32 (1 + 4 * bit precise + code * 2 ^ 8 + (pc % 4096) * 2 ^ 16) ∧
  t.reg (qkey q 0x24) = w32 info ∧ (∀ k, k ≠ qkey q 0x20 → k ≠ qkey q 0x24 → t.reg k = s.reg k) ∧
  t.cnt64 (qkey q 0x28) = s.now ∧ (∀ k, k ≠ qkey q 0x28 → t.cnt64 k = s.cnt64 k) ∧
  t.quay q = { s.quay q with st := .draining, drainTo := .faulted, pc := BitVec.ofNat 13 (pc % 4096), hold := .none,
                             stall := .none, confHeld := 0 } ∧
  (∀ q', q' ≠ q → t.quay q' = s.quay q')

/-! ### Units of a quay: when conditions 2 to 4 of R162 let an instruction issue -/

/-- An instruction with regions rs for unit u meets no live conflicting entry, finds room in the scoreboard and a unit that
accepts it, and its issue qclk raises nothing (R162, R163, R165, R167). -/
def State.unitFree (s : State) (q : Nat) (u : Unit') (sb : Bool) (rs : List Region) (accepts : Bool)
    (late : Option Raised) : Prop :=
  anyConflict (s.quay q) u sb rs = false ∧ (s.quay q).sb.length + rs.length ≤ 32 ∧ accepts = true ∧ late = none

/-- The live entries that an issued instruction adds (R165). -/
def Quay.newEntries (x : Quay) (u : Unit') (rs : List Region) : List SbEntry :=
  rs.map (fun r => { region := r, unit := u, index := x.pc.toNat, id := x.nextId })

/-- The quay after an instruction with regions rs of unit u has issued. -/
def Quay.afterUnitIssue (x : Quay) (u : Unit') (rs : List Region) : Quay :=
  { x.afterIssue (x.pc + 1) with sb := x.sb ++ x.newEntries u rs }

/-- t's counters and other quays are those an issue of quay q leaves: ISSUED + 1 unless held, nothing else (R185). -/
def State.issueCounted (s t : State) (q : Nat) : Prop :=
  t.cnt64 (qkey q 0x100) = s.issueCountAfter q 0 1 ∧ (∀ k, k ≠ qkey q 0x100 → t.cnt64 k = s.cnt64 k) ∧
  (∀ q', q' ≠ q → t.quay q' = s.quay q')

/-! ### What the units of a quay read, compute and write, in the terms their meanings use -/

/-- The regions of a MOV to memory. -/
def movMemRegions (q : Nat) (w : W128) : List Region :=
  stackRegion q (sadr (wf w 24 32)) (movSides w).1 false ++ stackRegion q (sadr (wf w 56 32)) (movSides w).2 true

/-- The packets of a SEND that starts now with a tag base (R149, R253): WRITE payloads from the apron, READ_REQ lengths. -/
def sendPackets (s : State) (q : Nat) (w : W128) (base : W32) : List Packet :=
  let f := sendWord w
  let g := wf w 106 1
  (List.range (sendCount f.nlen)).map (fun i =>
    if f.read then
      newPacket s 2 f.vc.toNat f.eid q 0 (sendPart f.nlen i - 1) (sendTag g base i) (f.raddr + w32 (64 * i)) []
    else
      newPacket s 1 f.vc.toNat f.eid q f.rcnt.toNat 0 (sendTag g base i) (f.raddr + w32 (64 * i))
        (if f.nlen = 0 then [] else s.stack.mem.read (stackAddr q 0 (64 * f.lbase + 4096 * i)) (64 * sendPart f.nlen i)))

/-- Activation rows of an MMA (R63). -/
def mmaRows (w : W128) : Nat := (csetCranes (wf w 24 3)).length * mcRows (wf w 27 2)
/-- Bounding length of the activation rows (R64, R142). -/
def mmaActLen (w : W128) : Nat :=
  (mmaRows w - 1) * (wf w 57 13 * 64) + chainTiles (wf w 29 2) * tileK (wf w 34 4) * fmtBits (wf w 38 4) / 8
/-- Bounding length of the activation scales (R65, R142). -/
def mmaScaleLen (w : W128) : Nat := (mmaRows w - 1) * wf w 89 12 + chainTiles (wf w 29 2) * tileK (wf w 34 4) / 32
/-- The regions of an MMA.OW or MMA.AC (R165). -/
def mmaRegions (w : W128) : List Region :=
  [apronRegion (wf w 44 13 * 64) (mmaActLen w) false] ++
  (if isMx (wf w 38 4) then [apronRegion (wf w 70 19) (mmaScaleLen w) false] else []) ++
  [halfRegion (wf w 31 1) false, accRegion (craneMask (csetCranes (wf w 24 3))) (wf w 101 6) (mcRows (wf w 27 2)) true]
/-- The 64 products that tile i of an MMA gives activation row r (R33 to R37, R51, R64). -/
def mmaProducts (s : State) (q : Nat) (w : W128) (i r : Nat) : List AccElem :=
  let wfmt := wf w 34 4
  let afmt := wf w 38 4
  let T := chainTiles (wf w 29 2)
  let img := (s.quay q).tileImage wfmt (wf w 31 1) (wf w 32 2 + i * tileSlots wfmt)
  let row := s.stack.mem.read (stackAddr q 0 (wf w 44 13 * 64) + r * (wf w 57 13 * 64)) (T * tileK wfmt * fmtBits afmt / 8)
  let scales := if isMx afmt then s.stack.mem.read (stackAddr q 0 (wf w 70 19) + r * wf w 89 12) (T * tileK wfmt / 32) else []
  (List.range 64).map (fun n => dot (sext (wf w 107 10) 10) (tileColumn wfmt img n) (actElems wfmt afmt i row scales))
/-- The 64 products that a waiting tile gives activation row r of a job (R56). -/
def tileProducts (x : Quay) (j : CraneJob) (i slot r : Nat) : List AccElem :=
  (List.range 64).map (fun n => dot j.anchor (tileColumn j.wfmt (x.tileImage j.wfmt j.half slot) n)
    (actElems j.wfmt j.afmt i ((j.abytes.drop r).headD []) ((j.ascales.drop r).headD [])))
/-- The regions of a load form (R144, R165). -/
def loadRegions (w : W128) : List Region :=
  [apronRegion (wf w 44 13 * 64) (wf w 32 6 * (wf w 57 13 * 64) + 1056) false,
   accRegion (craneMask [wf w 24 2]) (wf w 26 6) (wf w 32 6 + 1) true]
/-- The scales of a drain: its block's, or 1 everywhere (R81, R145). -/
def drainScales (s : State) (q : Nat) (w : W128) : Scales :=
  if wf w 83 1 = 1 then scalesOf (s.apron q (wf w 70 13 * 64) 12) else noScales
/-- The apron ranges of a drain, as checks of R139. -/
def drainBounds (s : State) (q : Nat) (w : W128) : List (Option Raised) :=
  let sc := drainScales s q w
  [apronBounds (wf w 44 13 * 64) (wf w 32 6 * (wf w 57 13 * 64) + drainRowBytes (wf w 38 3)),
   if wf w 83 1 = 1 then apronBounds (wf w 70 13 * 64) 64 else none,
   sc.rAt.bind (fun a => apronBounds (a + 4 * wf w 26 6) (4 * (wf w 32 6 + 1))), sc.cAt.bind (fun a => apronBounds a 256)]
/-- The regions of a drain (R145, R165). -/
def drainRegions (s : State) (q : Nat) (w : W128) : List Region :=
  let sc := drainScales s q w
  [accRegion (craneMask [wf w 24 2]) (wf w 26 6) (wf w 32 6 + 1) false,
   apronRegion (wf w 44 13 * 64) (wf w 32 6 * (wf w 57 13 * 64) + drainRowBytes (wf w 38 3)) true] ++
  (if wf w 83 1 = 1 then [apronRegion (wf w 70 13 * 64) 64 false] else []) ++
  (sc.rAt.toList.map (fun a => apronRegion (a + 4 * wf w 26 6) (4 * (wf w 32 6 + 1)) false)) ++
  (sc.cAt.toList.map (fun a => apronRegion a 256 false))
/-- The bytes that a drain writes for its row i (R40 to R44, R145). -/
def drainBytes (s : State) (q : Nat) (w : W128) (i : Nat) : List Byte :=
  let x := s.quay q
  let c := wf w 24 2
  let m := wf w 26 6 + i
  let sc := drainScales s q w
  let ra := (sc.rAt.map (fun a => s.apron q (a + 4 * wf w 26 6) (4 * (wf w 32 6 + 1)))).getD []
  let ca := (sc.cAt.map (fun a => s.apron q a 256)).getD []
  if wf w 38 3 = 6 then acc128Row (x.row c m) (x.anchor c m)
  else (drainRow (wf w 38 3) (wf w 41 2) (wf w 43 1 = 1) (x.row c m) (x.anchor c m) (fval sc.t)
    (arrVal sc.rAt.isSome ra i) ((List.range 64).map (arrVal sc.cAt.isSome ca))).1

/-- The registers that a VE instruction may write at its start: SB_STATUS, ACC_STATUS, VE_STATUS, LUT_TAG. -/
def veKeys (q : Nat) : List Nat := [qkey q 0x138, qkey q 0x180, qkey q 0x200, qkey q 0x204]
/-- The regions that a VE instruction has read once it is latched: its record and its scale blocks (R98, R466). -/
def veLatched (rd : Reader) (w : W128) : List Region :=
  (recordRange w ++ blockRanges rd (descRanges rd w)).map (fun p => apronRegion p.1 p.2 false)
/-- A VE instruction with word w passes the checks of R102 as `work` on an idle VE of a quay with no live entry and no marked
codeword, its budget allows it, and no trap of ACC_CTRL holds (R98, R162, R334). -/
def State.veReady (s : State) (q : Nat) (w : W128) (work : VeWork) : Prop :=
  veCheck (fun a n => s.apron q a n) w = .ok work ∧ (s.quay q).sb = [] ∧ (s.quay q).ve = none ∧
  (s.quay q).veWait = none ∧ (veRegions (fun a n => s.apron q a n) work).length ≤ 32 ∧ s.budget q 1 0 = none ∧
  veTrap s q work.inputs = none ∧ s.stack.ecc = [] ∧ (s.quay q).latch = none

/-! ### Packets that arrive -/

/-- The state once a packet has left what it arrived in: the port's received packets, whose credits go back to the partner, or
the mesh (R243, R244). -/
def State.taken (s : State) (src : Ingress) (k : Packet) : State :=
  match src with
  | .port p =>
    let x := s.port p
    s.setPort p { x with
      rxPkts := x.rxPkts.erase k.bytes, owed := tabSet x.owed k.vc.toNat (tabGet x.owed k.vc.toNat 0 + k.need) }
  | .mesh => { s with fabric := { s.fabric with mesh := s.fabric.mesh.erase k } }
/-- A packet passes cases 1 to 4 of R260 at a port that is UP with its VC open, or on the mesh. -/
def State.admits (s : State) (src : Ingress) (k : Packet) : Prop :=
  k.headerCase = none ∧ ∀ p, src = .port p → (s.port p).st = .up ∧ s.vcClosed p k.vc = false
/-- An admitted packet, its waypoints that resolve here popped to k', is delivered to unit u with a good trailer: it acts where it
enters, its start reaches its router over a mesh whose routing no chart lets adapt, or it is on its way over the mesh (R17,
R241, R242, R247, R250). -/
def State.delivers (s : State) (src : Ingress) (k k' : Packet) (u : Nat) : Prop :=
  s.admits src k ∧ k' = popLocal 4 s k ∧ (s.route k'.routingEid).kind = 2 ∧ (s.route k'.routingEid).unit = u ∧
  (k'.actsAtIngress u = true ∨ s.reaches (ingressAt src k) (k'.position u) = true ∨ src = .mesh ∧ k ∈ s.fabric.mesh) ∧
  (k'.e2e && k'.trailer.all (fun t => t.ecrc != k'.ecrcOf)) = false ∧ s.fabric.adaptMesh = false
/-- The windows and the gathered ACKs have room for a packet's tag (R254, R257). -/
def State.ackRoom (s : State) (k : Packet) : Prop :=
  (s.fabric.windows.filter (fun e => e.of k)).length < 1024 ∧
  ∀ g ∈ s.fabric.gathers, g.eid = k.src → g.sunit = k.sunit → g.tags.length < 15
/-- Packet o of SEND j of quay q has completed in t, as success or LOST: its place is free, the local counter has counted, and
with its last packet the SEND has left and its entries are released (R149, R151, R253, R255). -/
def State.completes (s t : State) (q : Nat) (o : OutPkt) (j : SendJob) (lost : Bool) : Prop :=
  let g := fld o.pkt.tag.toNat 31 1
  let f := getBits (s.reg (kFail q j.lcnt)) 0 16
  (t.quay q).outs g = ((s.quay q).outs g).filter (fun k => k.pkt.tag != o.pkt.tag) ∧
  t.reg (kCnt q j.lcnt) = s.reg (kCnt q j.lcnt) + 1 ∧
  getBits (t.reg (kFail q j.lcnt)) 0 16 = (if lost then min 65535 (f + 1) else f) ∧
  (∀ q', q' ≠ q → (t.quay q').st = (s.quay q').st ∧ (t.quay q').sends = (s.quay q').sends) ∧
  (j.left ≤ 1 → (t.quay q).sends = (s.quay q).sends.filter (fun k => k.id != j.id)) ∧
  (2 ≤ j.left → (t.quay q).sends = (s.quay q).sends.map (fun k =>
    if k.id = j.id then { j with left := j.left - 1, lost := j.lost || lost } else k))

/-! ### Mailbox commands -/

/-- The entry e with opcode o at the head of a ring may be taken, and its fields are as R279 and R280 ask. -/
def State.takes (s : State) (ring o : Nat) (e : List Byte) : Prop :=
  ring < 2 ∧ s.mayTake ring = true ∧ e = s.sqEntry ring (s.ringCount (sqHead ring)) ∧ eOpc e = o ∧ fieldsOk e = true ∧
  (ring = 1 → urgentOpc o = true)
/-- The entry at the head of a ring has been taken in t (R281). -/
def State.tookEntry (s t : State) (ring : Nat) : Prop :=
  t.ringCount (sqHead ring) = (s.ringCount (sqHead ring) + 1) % 65536
/-- The command e of a ring is completed in t: the next entry of the CQ holds its completion, and source 172 is notified
(R284). -/
def State.answers (s t : State) (ring : Nat) (e : List Byte) (status berth : Nat) (tag : W64) (count : W32) : Prop :=
  let n := s.ringCount 0x24
  s.tookEntry t ring ∧ t.noted 172 ∧
  t.windows.read (0x1830000 + 32 * (n % 2048)) 32 =
    cqBytes n s.now (cqDone (eId e) (BitVec.ofNat 8 (eOpc e)) ring status berth tag count)

/-! ### Frames of the shared operations -/

/-- Every register but those of `keys` and those that a notification or a trace record may write reads as before. -/
def State.regsBut (s t : State) (keys : List Nat) : Prop :=
  ∀ k, k ∉ keys → noteKey k = false → traceKey k = false → t.reg k = s.reg k

/-- The registers of a quay that RESET clears besides PARAM, CNT, FAIL and CMPSTAT: QEVT's LOG_CE_CNT, the fault record,
PATCH_CTRL.MODE, SB_STATUS and LUT_TAG (R183, R185). -/
def resetKeys (q : Nat) : List Nat := [0x10, 0x20, 0x24, 0x30, 0x138, 0x204].map (qkey q)

/-- A 64-bit counter after n more counts, unless the HOLD bit of its control register stops it (R73, R237, R264). -/
def State.countAfter (s : State) (ctrl k n : Nat) : W64 :=
  if getBits (s.reg ctrl) 1 1 = 1 then s.cnt64 k else s.cnt64 k + w64 n

/-! ### Power states -/

/-- A PWR_CMD is not accepted in t: CMD_REJ, PWR_REFUSED as the last error and code, source 164; nothing else (R322, R349). -/
def State.refusesPower (s t : State) : Prop :=
  t = { s with regs := t.regs, out := t.out } ∧ getBits (t.reg (kAon 4)) 4 1 = 1 ∧ getBits (t.reg (kAon 4)) 8 8 = 0x90 ∧
  getBits (t.reg 0x200004) 16 8 = 0x90 ∧ t.noted 164 ∧ s.regsBut t [kAon 4, 0x200004]
/-- Entry into a sleep state has begun in t: ENTERING, its target shown, every quay gated off and its state lost, VCORE on its way
to retention, and VSRAM too where VCORE is there or cannot be changed; for S2 and S3 the context store is lost, its rails are off
and every port is OFF (R320, R323, R329). -/
def State.entersSleep (s t : State) (n : Nat) (st : PwrState) : Prop :=
  let settled := (s.rail 0).mv = 600 ∨ getBits (s.reg (kBw 4)) 5 1 = 1
  t.power.st = .entering ∧ t.power.from' = s.power.st ∧ t.power.target = st ∧ t.power.a1Next = none ∧
  getBits (t.reg (kAon 4)) 24 3 = n ∧ getBits (t.reg (kAon 4)) 16 8 = 0 ∧ (t.rail 0).target = 600 ∧ (t.rail 0).mv = (s.rail 0).mv ∧
  (settled → t.power.entry = 2 ∧ (t.rail 1).target = 650) ∧ (¬ settled → t.power.entry = 1 ∧ t.rail 1 = s.rail 1) ∧
  (∀ q, q < 144 → t.quay q = (s.quay q).asleep .reset ∧ ∀ o, o < 0x10000 → t.reg (qkey q o) = resetOf (qkey q o)) ∧
  (∀ a, t.stack.mem.get a = if saSpace a = 0 ∨ (st ≠ .s1 ∧ saSpace a = 2) then 0 else s.stack.mem.get a) ∧
  t.stack.logbook = [] ∧ (st = .s1 → t.stack.tags = s.stack.tags ∧ t.serve = s.serve ∧ t.silo = s.silo) ∧
  (st ≠ .s1 → t.stack.tags = [] ∧ (t.rail 2).mv = 0 ∧ (t.rail 3).mv = 0 ∧
    ∀ p, p < 16 → (t.port p).st = .off ∧ (t.port p).fromSeeds = true)
/-- A wake of source src has begun an exit in t: EXITING, LAST_WAKE and its stamp, the latch count, the wake log where it has room,
and the rails that AVSBus does not control back at their operating voltages (R326, R329, R349). -/
def State.exitsFor (s t : State) (src : Nat) : Prop :=
  t = { s with regs := t.regs, c64 := t.c64, wakeLog := t.wakeLog, out := t.out, power := { s.power with
    from' := s.power.st, target := .a0, groups := 0, latched := none, latches := t.power.latches, st := .exiting,
    rails := s.power.rails.filter (fun p => decide (p.1 < 3)) } } ∧
  t.reg (kAon 0xC) = w32 (src + 256 * (pwrCode s.power.st % 8)) ∧ getBits (t.reg (kAon 4)) 24 3 = 0 ∧
  t.cnt64 (kAon 0x10) = s.now ∧ (∀ k, k ≠ kAon 0x10 → t.cnt64 k = s.cnt64 k) ∧
  t.latchCount src = min 255 (s.latchCount src + 1) ∧ (∀ i, i ≠ src → t.latchCount i = s.latchCount i) ∧
  (let e : LogEntry :=
     { ts := s.now, w2 := w32 (2 ^ 31 + pwrCode s.power.st * 16 + src), w3 := w32 (min 255 (s.latchCount src + 1)) }
   s.wakeLog.length < 16 → t.wakeLog = s.wakeLog ++ [e]) ∧
  t.noted 165 ∧ s.regsBut t [kAon 4, kAon 0xC]

/-! ### Registers -/

/-- Registers whose write stores their RW bits, clears the W1C bits written 1 and does nothing else (R420, R421). -/
def storesPlainly (b : Block) (o : Nat) : Bool :=
  match b with
  | .glob => (0x500 ≤ o && o < 0x540) || (0x800 ≤ o && o < 0xC00)
  | .chart => !(o = 0 || o = 0x90)
  | .bw => !(o = 0 || o = 0x20 || o = 0x30 || o = 0x38)
  | .port _ => !(o = 0 || o = 0x40)
  | .routeReg => !((0x20 ≤ o && o < 0x30) || o = 0x70 || o = 0x90)
  | .quay _ => o = 0x10 || o = 0x24 || (0x34 ≤ o && o < 0x130) || (0x134 ≤ o && o < 0x1D0) || o = 0x200 || o = 0x204 ||
      (0x500 ≤ o && o < 0x600)
  | .stack => !(o = 0x110 || o = 0x200)
  | .silo => !(o = 4 || o = 8 || o = 0x4C || o = 0x50 || o = 0x70)
  | .mbox => 0x60 ≤ o && o < 0x68
  | .tb => !(o = 8 || o = 0x40 || o = 0x80 || o = 0x88 || o = 0x8C || o = 0x90)
  | .aon => !(o = 0 || o = 0x30)
  | _ => false
/-- Bit i of a register after a write of the value and mask f: an RW bit takes the value, a W1C bit written 1 clears. -/
def writtenBit (old : W32) (rw w1c : Nat) (f : W32 × W32) (i : Nat) : Bool :=
  (if f.2.getLsbD i && rw.testBit i then f.1.getLsbD i else old.getLsbD i) &&
  !(f.1.getLsbD i && f.2.getLsbD i && w1c.testBit i)
/-- A host-and-register error in t: its flag of HOST_ERR and source 171, nothing but what an error may write (R424). -/
def State.raisesHostErr (s t : State) (flag : Nat) : Prop :=
  t = { s with regs := t.regs, c64 := t.c64, out := t.out } ∧ getBits (t.reg 0x404) flag 1 = 1 ∧ t.noted 171 ∧
  ∀ k, errKey k = false → t.reg k = s.reg k

/-! ### The host DMA engine -/

/-- A descriptor of 64 bytes passes the checks of its fields on a channel that is ready for it (R429, R430). -/
def State.dmaTakes (s : State) (c : Nat) (d : List Byte) (ty : Nat) : Prop :=
  c < 16 ∧ s.dmaReady c = true ∧ dType d = ty ∧ (s.chan c).ran < 65536 ∧ dCheck d (s.dmaLevel c) = none
/-- Channel c has ended in ERROR in t with a code: the failing address captured, ERR_EVT set, its source notified (R433,
R439). -/
def State.dmaFails (s t : State) (c code : Nat) : Prop :=
  getBits (t.reg (dkey c 4)) 0 3 = 2 ∧ getBits (t.reg (dkey c 4)) 24 8 = code ∧ getBits (t.reg (dkey c 4)) 8 1 = 1 ∧
  t.cnt64 (dkey c 0x24) = s.dmaAddr c ∧ t.noted (176 + c) ∧ (∀ c', c' ≠ c → t.chan c' = s.chan c') ∧
  s.regsBut t [dkey c 4]

end Sys2Proof.Machine
end

