-- ==== Sys2Proof/Certificates/Slice0/Obligations.lean ====
section
/-! DEFINITION. The statements about the module, for the provers. `∃ t, exec c s = .next t ∧ …` says that the command
completes and what the next state holds; `t = { s with regs := t.regs, … }` says that no part of the state but the named
ones differs, so that every memory, queue and unit not named is unchanged. -/

section

open Sys2Proof Sys2Proof.Machine

/-! ### The sequencer of a quay (R153 to R158) -/

/-- PSET, PADD and the five CNT rows (R152, R153): the register written, its value, and that nothing else changes but issue; a
PARAM that a patch of the same qclk names keeps the patch. -/
def Obligations.ParamAndCounterInstructions : Prop := ∀ (q : Nat) (s : State) (w : W128),
  (s.readyAt q .pset w → ∃ t, exec (.pset q) s = .next t ∧ s.issuesTo t q [kParam q (wf w 24 6)] ∧
    t.reg (kParam q (wf w 24 6)) = s.paramAfter q (wf w 24 6) (w32 (wf w 32 32))) ∧
  (s.readyAt q .padd w → ∃ t, exec (.padd q) s = .next t ∧ s.issuesTo t q [kParam q (wf w 24 6)] ∧
    t.reg (kParam q (wf w 24 6)) = s.paramAfter q (wf w 24 6) (s.reg (kParam q (wf w 30 6)) + w32 (wf w 64 32))) ∧
  (s.readyAt q .cnt w → wf (s.wordAt q) 28 3 = 0 → ∃ t, exec (.cntSet q) s = .next t ∧
    s.issuesTo t q [kCnt q (wf w 24 4)] ∧ t.reg (kCnt q (wf w 24 4)) = w32 (wf w 64 32)) ∧
  (s.readyAt q .cnt w → wf (s.wordAt q) 28 3 = 1 → ∃ t, exec (.cntAdd q) s = .next t ∧
    s.issuesTo t q [kCnt q (wf w 24 4)] ∧
    t.reg (kCnt q (wf w 24 4)) = s.reg (kCnt q (wf w 24 4)) + w32 (wf w 64 32)) ∧
  (s.readyAt q .cnt w → wf (s.wordAt q) 28 3 = 2 → ∃ t, exec (.cntClr q) s = .next t ∧
    s.issuesTo t q [kCnt q (wf w 24 4), kFail q (wf w 24 4)] ∧ t.reg (kCnt q (wf w 24 4)) = 0 ∧
    t.reg (kFail q (wf w 24 4)) = 0) ∧
  (s.readyAt q .cnt w → wf (s.wordAt q) 28 3 = 3 → ∃ t, exec (.cntGetc q) s = .next t ∧
    s.issuesTo t q [kParam q (wf w 32 6)] ∧
    t.reg (kParam q (wf w 32 6)) = s.paramAfter q (wf w 32 6) (s.reg (kCnt q (wf w 24 4)))) ∧
  (s.readyAt q .cnt w → wf (s.wordAt q) 28 3 = 4 → ∃ t, exec (.cntGetf q) s = .next t ∧
    s.issuesTo t q [kParam q (wf w 32 6)] ∧
    t.reg (kParam q (wf w 32 6)) = s.paramAfter q (wf w 32 6) (w32 (getBits (s.reg (kFail q (wf w 24 4))) 0 16)))

/-- CMPB (R154): CMPSTAT bit k takes the outcome, every other bit and register stays, and a taken branch sets the program
counter to TARGET with two qclk in ST_BR (entry 12 for that count). -/
def Obligations.CompareBranch : Prop := ∀ (q : Nat) (s : State) (w : W128), s.readyAt q .cmpb w →
  let c : Bool :=
    if wf w 27 3 = 6 then decide (getBits (s.reg (qkey q 0x580)) (wf w 24 3) 1 = 1)
    else cmpbTest (wf w 27 3) (cmpbA s q w)
      (if wf w 39 1 = 1 then s.reg (kParam q (wf w 40 6)) else w32 (wf w 64 32))
  let taken := wf w 46 2 = 3 ∨ (wf w 46 2 = 1 ∧ c = true) ∨ (wf w 46 2 = 2 ∧ c = false)
  ∃ t, exec (.cmpb q) s = .next t ∧
    t = { s with regs := t.regs, c64 := t.c64, quays := t.quays } ∧
    t.reg (qkey q 0x580) = putBits (s.reg (qkey q 0x580)) (wf w 24 3) 1 (bit c) ∧
    (∀ k, k ≠ qkey q 0x580 → t.reg k = s.reg k) ∧
    (taken → t.quay q = (s.quay q).afterIssue (BitVec.ofNat 13 (wf w 48 12)) ∧
      t.cnt64 (qkey q 0x110) = s.issueCountAfter q 2 2) ∧
    (¬ taken → t.quay q = (s.quay q).afterIssue ((s.quay q).pc + 1) ∧ t.cnt64 (qkey q 0x110) = s.cnt64 (qkey q 0x110)) ∧
    (∀ q', q' ≠ q → t.quay q' = s.quay q') ∧ t.cnt64 (qkey q 0x100) = s.issueCountAfter q 0 1 ∧
    (∀ k, k ≠ qkey q 0x100 → k ≠ qkey q 0x110 → t.cnt64 k = s.cnt64 k)

/-- NOP, WTIDE, WAITC and FENCE (R155 to R158): each passes where what it waits for is there already, and else holds issue
without having issued. -/
def Obligations.WaitsPassOrHold : Prop := ∀ (q : Nat) (s : State) (w : W128),
  (s.readyAt q .nop w → ∃ t, exec (.nop q) s = .next t ∧
    (wf w 24 16 = 0 → s.issuesTo t q []) ∧ (wf w 24 16 ≠ 0 → s.holdsTo t q (.nop (wf w 24 16)))) ∧
  (s.readyAt q .wtide w → ∃ t, exec (.wtide q) s = .next t ∧
    (wf w 24 2 = 0 → s.holdsTo t q .tideNext) ∧
    (wf w 24 2 = 1 → s.curPhase = wf w 26 6 → s.issuesTo t q []) ∧
    (wf w 24 2 = 1 → s.curPhase ≠ wf w 26 6 → s.holdsTo t q (.tidePhase (wf w 26 6))) ∧
    (wf w 24 2 = 2 → wf w 32 20 ≤ s.time.qclk → s.issuesTo t q []) ∧
    (wf w 24 2 = 2 → s.time.qclk < wf w 32 20 → s.holdsTo t q (.tideOffset (wf w 32 20)))) ∧
  (s.readyAt q .waitc w → ∃ t, exec (.waitc q) s = .next t ∧
    (0 ≤ (s.reg (kCnt q (wf w 24 4)) - w32 (wf w 32 32)).toInt → s.issuesTo t q []) ∧
    ((s.reg (kCnt q (wf w 24 4)) - w32 (wf w 32 32)).toInt < 0 →
      s.holdsTo t q (.waitc (wf w 24 4) (w32 (wf w 32 32)) (wf w 64 20) 0))) ∧
  (s.readyAt q .fence w → ∃ t, exec (.fence q) s = .next t ∧
    ((s.quay q).fenceDone (BitVec.ofNat 5 (wf w 24 5)) = true → s.issuesTo t q []) ∧
    ((s.quay q).fenceDone (BitVec.ofNat 5 (wf w 24 5)) = false → s.holdsTo t q (.fence (BitVec.ofNat 5 (wf w 24 5)))))

/-- The commands that end a hold (R155 to R158): a NOP whose clocks have run out, a WTIDE at its OFFSET, a WAITC that is
satisfied, a FENCE whose units are done; each issues the held instruction, and before that changes nothing. WAIT_TMO and SB_OVF (R155, R170, R180, R184): a
WAITC whose TMO is not 0 and has run out, and whose counter has not reached its target, faults with code 0x14 and the counter number; an
instruction held by a conflict or a full scoreboard faults with code 0x15 and the live entries in FAULT_INFO, unless SB_LIMIT
is 0. HALT (R158, R179, R185): once every unit is idle the quay drains toward HALTED with CODE reported, PC staying on the
HALT; until then it holds as a full FENCE. -/
def Obligations.HoldsEndAndHalt : Prop :=
  ((∀ (q : Nat) (s : State),
      ((s.quay q).hold = .nop 0 → ∃ t, exec (.nopHoldEnd q) s = .next t ∧ s.issuesTo t q []) ∧
      (∀ n, (s.quay q).hold = .nop (n + 1) → exec (.nopHoldEnd q) s = .next s) ∧
      (∀ n, (s.quay q).hold = .tideOffset n →
        (n ≤ s.time.qclk → ∃ t, exec (.wtideOffsetReached q) s = .next t ∧ s.issuesTo t q []) ∧
        (s.time.qclk < n → exec (.wtideOffsetReached q) s = .next s)) ∧
      (∀ n tg tmo e, (s.quay q).hold = .waitc n tg tmo e →
        (0 ≤ (s.reg (kCnt q n) - tg).toInt → ∃ t, exec (.waitcRelease q) s = .next t ∧ s.issuesTo t q []) ∧
        ((s.reg (kCnt q n) - tg).toInt < 0 → exec (.waitcRelease q) s = .next s)) ∧
      (∀ m, (s.quay q).hold = .fence m →
        ((s.quay q).fenceDone m = true → ∃ t, exec (.fenceRelease q) s = .next t ∧ s.issuesTo t q []) ∧
        ((s.quay q).fenceDone m = false → exec (.fenceRelease q) s = .next s))) ∧
    ((∀ (q : Nat) (s : State) (n : Nat) (tg : W32) (tmo e : Nat),
        (s.quay q).st = .run → (s.quay q).hold = .waitc n tg tmo e → tmo ≠ 0 →
        (tmo ≤ e → (s.reg (kCnt q n) - tg).toInt < 0 →
          ∃ t, exec (.waitTmo q) s = .next t ∧ s.faultsTo t q 0x14 (s.quay q).pc.toNat n true) ∧
        (e < tmo → exec (.waitTmo q) s = .next s)) ∧
      (∀ (q : Nat) (s : State), s.enabled q = true → (s.quay q).st = .run →
        (s.quay q).stall = .conf ∨ (s.quay q).stall = .full → getBits (s.reg (qkey q 0x13C)) 0 16 ≠ 0 →
        ∃ t, exec (.sbOvf q) s = .next t ∧ s.faultsTo t q 0x15 (s.quay q).pc.toNat (s.quay q).sb.length true))) ∧
  (∀ (q : Nat) (s : State) (w : W128), s.readyAt q .halt w →
    ∃ t, exec (.halt q) s = .next t ∧
      ((s.quay q).fenceDone 0b11111 = false → s.holdsTo t q .halt) ∧
      ((s.quay q).fenceDone 0b11111 = true →
        t = { s with c64 := t.c64, quays := t.quays } ∧
        t.quay q = { (s.quay q).afterIssue (s.quay q).pc with
          st := .draining, drainTo := .halted, hcode := BitVec.ofNat 16 (wf (s.wordAt q) 24 16) } ∧
        (∀ q', q' ≠ q → t.quay q' = s.quay q') ∧
        t.cnt64 (qkey q 0x100) = s.issueCountAfter q 0 1 ∧ (∀ k, k ≠ qkey q 0x100 → t.cnt64 k = s.cnt64 k)))

/-! ### Gantries (R146 to R149, R164) -/

/-- MOV to memory on an idle gantry between quays that are not being scrubbed (R110, R146, R147, R164): its words are moved in
order, word by word, from the addresses that `movWords` computes; no other byte of the stack changes, and the gantry holds the
started instruction. Where a chart lets routing adapt, its crossing of the mesh may mark the tide's variance (R19, R197). -/
def Obligations.MovMovesWords : Prop := ∀ (q : Nat) (s : State) (w : W128), s.readyAt q .mov w → wf w 122 1 = 0 →
  sadrCheck s (wf w 24 32) (movSides w).1 24 = none → sadrCheck s (wf w 56 32) (movSides w).2 56 = none →
  s.unitFree q (.gantry (wf w 121 1)) false (movMemRegions q w) true (s.budget q 2 (wf w 121 1)) →
  (s.quay q).gant (wf w 121 1) = [] → movReach q w s = true → movRefused q s 0 (movWords w) = none → s.stack.ecc = [] →
  (s.quay (saQuay (sadr (wf w 24 32)))).st ≠ .scrub → (s.quay (saQuay (sadr (wf w 56 32)))).st ≠ .scrub →
  ∃ t, exec (.mov q) s = .next t ∧
    t = { s with regs := t.regs, c64 := t.c64, quays := t.quays, stack := { s.stack with mem := t.stack.mem },
                 tide := { s.tide with var := t.tide.var }, free := t.free } ∧
    (s.fabric.adaptMesh = false → t.tide = s.tide ∧ t.free = s.free) ∧
    (∀ b, t.tide.var.getLsbD b = true → s.tide.var.getLsbD b = true ∨ b = 4) ∧
    t.stack.mem = (movWords w).foldl (fun m p => m.write p.2 (m.read p.1 64)) s.stack.mem ∧
    (∀ a, (∀ p ∈ movWords w, ¬ (p.2 ≤ a ∧ a < p.2 + 64)) → t.stack.mem.get a = s.stack.mem.get a) ∧
    s.issueCounted t q ∧ (∀ k, k ≠ qkey q 0x138 → t.reg k = s.reg k) ∧
    t.quay q = ((s.quay q).afterUnitIssue (.gantry (wf w 121 1)) (movMemRegions q w)).setGant (wf w 121 1)
      [{ id := (s.quay q).nextId, index := (s.quay q).pc.toNat, word := w, started := true, isMov := true, fill := none,
         failed := false }]

/-- MOV into the weight buffer on an idle gantry from a quay that is not being scrubbed (R53, R54, R110, R147): the slots it fills
become FILLING with the image's bytes, which are read from the source in address order; no byte of the stack and no register but
SB_STATUS changes. -/
def Obligations.MovFillsSlots : Prop := ∀ (q : Nat) (s : State) (w : W128), s.readyAt q .mov w → wf w 122 1 = 1 →
  sadrCheck s (wf w 24 32) (fillBytes w) 24 = none →
  s.unitFree q (.gantry (wf w 121 1)) false
    (stackRegion q (sadr (wf w 24 32)) (fillBytes w) false ++ [halfRegion (wf w 56 1) true]) true
    (s.budget q 2 (wf w 121 1)) →
  (s.quay q).gant (wf w 121 1) = [] → movReach q w s = true → s.stack.ecc = [] →
  (s.quay (saQuay (sadr (wf w 24 32)))).st ≠ .scrub →
  ∃ t, exec (.mov q) s = .next t ∧
    t = { s with regs := t.regs, c64 := t.c64, quays := t.quays, tide := { s.tide with var := t.tide.var }, free := t.free } ∧
    (s.fabric.adaptMesh = false → t.tide = s.tide ∧ t.free = s.free) ∧ s.issueCounted t q ∧
    (∀ k, k ≠ qkey q 0x138 → t.reg k = s.reg k) ∧
    (∀ h i, (t.quay q).slot h i =
      if 4 * h + i < 4 * wf w 56 1 + wf w 57 2 ∨ 4 * wf w 56 1 + wf w 57 2 + wf w 59 2 < 4 * h + i
      then (s.quay q).slot h i else .filling) ∧
    (t.quay q).wb = (List.range (wf w 59 2 + 1)).foldl (fun m i => storeSlot (wf w 61 4) (wf w 56 1) (wf w 57 2)
      (s.stack.mem.read (sadr (wf w 24 32)) (64 * ceilDiv (fillBytes w) 64)) i m) (s.quay q).wb ∧
    t.quay q = { ((s.quay q).afterUnitIssue (.gantry (wf w 121 1))
        (stackRegion q (sadr (wf w 24 32)) (fillBytes w) false ++ [halfRegion (wf w 56 1) true])).setGant (wf w 121 1)
        [{ id := (s.quay q).nextId, index := (s.quay q).pc.toNat, word := w, started := true, isMov := true,
           fill := some (wf w 56 1, wf w 57 2, wf w 59 2 + 1), failed := false }]
      with slots := (t.quay q).slots, wb := (t.quay q).wb }

/-- GANTRY_START and MOV_DONE (R147, R164, R169): a MOV past its last source read leaves the queue, goes on writing and
releases its source; when its last word is written its slots are FULL and its entries are released. -/
def Obligations.GantryRetiresAndCompletes : Prop := ∀ (q g : Nat) (s : State) (j : GantJob), g < 2 →
  ((s.quay q).gant g = [j] → j.started = true → j.failed = false → j.isMov = true →
    (∀ k ∈ (s.quay q).sends, k.id ≠ j.id) →
    ∃ t, exec (.gantryStart q g) s = .next t ∧ t = { s with quays := t.quays } ∧ (∀ q', q' ≠ q → t.quay q' = s.quay q') ∧
      t.quay q = { ((s.quay q).setGant g []).setMoving g ((s.quay q).moving g ++ [j]) with
        sb := (s.quay q).sb.filter (fun e => !(e.id = j.id && !e.region.write)) }) ∧
  (∀ rest, (s.quay q).moving g = j :: rest → (∀ k ∈ rest, k.id ≠ j.id) → (∀ k ∈ (s.quay q).gant g, k.id ≠ j.id) →
    ∃ t, exec (.movDone q g) s = .next t ∧ t = { s with quays := t.quays } ∧ (∀ q', q' ≠ q → t.quay q' = s.quay q') ∧
      (t.quay q).moving g = rest ∧ (t.quay q).sb = (s.quay q).sb.filter (fun e => e.id != j.id) ∧
      (∀ h i n, j.fill = some (h, i, n) → ∀ h' i', (t.quay q).slot h' i' =
        if 4 * h + i ≤ 4 * h' + i' ∧ 4 * h' + i' < 4 * h + i + n then .full else (s.quay q).slot h' i') ∧
      (j.fill = none → (t.quay q).slots = (s.quay q).slots) ∧
      t.quay q = { (s.quay q).setMoving g rest with sb := (t.quay q).sb, slots := (t.quay q).slots })

/-- SEND of KIND WRITE and READ on an idle gantry (R149, R253, R255): every packet is outstanding with its tag, and the SEND is in
flight. The tags count on from the gantry's serial, which advances by the packet count; a WRITE whose fields a failure record
holds takes that record's tags instead, and the record is consumed. The stack and every register of the quay but SB_STATUS and
SEND_REC stay as they are. -/
def Obligations.SendInjectsPackets : Prop := ∀ (q : Nat) (s : State) (w : W128), s.readyAt q .send w →
  let f := sendWord w
  let g := wf w 106 1
  let rs := if f.nlen = 0 then [] else [apronRegion (64 * f.lbase) (64 * f.nlen) f.read]
  let rec? := if f.read then none else ((s.quay q).recs g).find? (fun r => r.matches f)
  let base := (rec?.map (·.tagBase)).getD (w32 ((s.quay q).serial g).toNat)
  (f.nlen ≠ 0 → apronBounds (64 * f.lbase) (64 * f.nlen) = none) → sendTarget s f (64 * f.nlen) = none →
  sendEid s f = none → s.unitFree q (.gantry g) false rs true (s.budget q 2 g) → (s.quay q).gant g = [] →
  ((s.quay q).outs g).length + sendCount f.nlen ≤ 256 →
  (∀ k ∈ (s.quay q).sends, k.id ≠ (s.quay q).nextId) → s.stack.ecc = [] →
  ∃ t, exec (if wf (s.wordAt q) 105 1 = 0 then .sendWrite q else .sendRead q) s = .next t ∧
    (t.quay q).outs g = (s.quay q).outs g ++ (sendPackets s q w base).map (fun k =>
      { send := (s.quay q).nextId, pkt := { k with ts := s.now }.sealed, acks := acksFor s k, resends := 0,
        lastSent := s.now, start := q }) ∧
    (rec? = none → (t.quay q).serial g = (s.quay q).serial g + BitVec.ofNat 31 (sendCount f.nlen) ∧
      (t.quay q).recs g = (s.quay q).recs g ∧ t.reg (qkey q 0x600) = s.reg (qkey q 0x600)) ∧
    (∀ r, rec? = some r → (t.quay q).serial g = (s.quay q).serial g ∧ (t.quay q).recs g = ((s.quay q).recs g).erase r ∧
      t.reg (qkey q 0x600) = putBits (s.reg (qkey q 0x600)) (4 * g) 3 (((s.quay q).recs g).length - 1)) ∧
    (∃ j, (t.quay q).sends = (s.quay q).sends ++ [j] ∧ j.id = (s.quay q).nextId ∧ j.gantry = g ∧
      j.left = sendCount f.nlen ∧ j.lost = false ∧ j.lcnt = f.lcnt ∧ j.tagBase = base ∧ j.todo = [] ∧
      (j.write = !f.read)) ∧
    (t.quay q).pc = (s.quay q).pc + 1 ∧ (t.quay q).nextId = (s.quay q).nextId + 1 ∧
    (t.quay q).sb = (s.quay q).sb ++ (s.quay q).newEntries (.gantry g) rs ∧ (∀ q', q' ≠ q → t.quay q' = s.quay q') ∧
    t.stack = s.stack ∧ t.serve = s.serve ∧ t.silo = s.silo ∧ t.power = s.power ∧ t.pending = s.pending ∧
    (∀ o, o < 0x10000 → o ≠ 0x138 → o ≠ 0x600 → t.reg (qkey q o) = s.reg (qkey q o))

/-! ### Cranes (R51 to R69, R142 to R145) -/

/-- The placing of a product (R34, R36): a product of two values, one of them not finite, adds nothing and sets NF, also where
the other is zero, and a NaN block scale makes its element such a value; any other is divided by 2^(a − 96) and rounded to the
nearest integer, ties to even, with INX where that discards a fraction and OVF exactly where |p| ≥ 2^(a+16) − 2^(a−97), which
adds nothing. The events of the elements of a row reach ACC_STATUS beside them. -/
def Obligations.ProductsArePlaced : Prop := ∀ (x : AccElem) (a : Int),
  (∀ v w : Val, (v = .nan ∨ w = .nan ∨ ∃ g, v = .inf g ∨ w = .inf g) →
    x.addProduct a (mulVal v w) = { x with nf := true }) ∧
  (∀ v : Val, mulVal v (e8m0 255) = .nan ∧ mulVal v (ue5m3 255) = .nan) ∧
  (∀ (n1 n2 : Bool) (m1 m2 : Nat) (e1 e2 : Int),
    let p : ℚ := (sgn n1 m1 : ℚ) * (sgn n2 m2 : ℚ) * 2 ^ (e1 + e2)
    let r : ℚ := p / 2 ^ (a - 96)
    let y := x.addProduct a (mulVal (.fin n1 m1 e1) (.fin n2 m2 e2))
    ∃ n : Int, |(n : ℚ) - r| ≤ 1 / 2 ∧ (|(n : ℚ) - r| = 1 / 2 → Even n) ∧
      (y.inx = true ↔ x.inx = true ∨ (n : ℚ) ≠ r) ∧
      (y.ovf = true ↔ x.ovf = true ∨ (2 : ℚ) ^ (a + 16) - 2 ^ (a - 97) ≤ |p|) ∧ y.nf = x.nf ∧
      ((2 : ℚ) ^ (a + 16) - 2 ^ (a - 97) ≤ |p| ↔ 2 ^ 112 ≤ |n|) ∧
      y.a = if 2 ^ 112 ≤ |n| then x.a else x.a + BitVec.ofInt 128 n) ∧
  (∀ (s : State) (q c m : Nat) (ow : Bool) (d : List AccElem), c < 4 →
    let t := takeRow q c m ow a d s
    (∀ k, k ≠ qkey q 0x180 → t.reg k = s.reg k) ∧
    ∀ i, i < 32 → (t.reg (qkey q 0x180)).getLsbD i = ((s.reg (qkey q 0x180)).getLsbD i ||
      (decide (i = 4 * c) && d.any (·.ovf)) || (decide (i = 4 * c + 1) && d.any (·.inx)) ||
      (decide (i = 4 * c + 2) && d.any (·.nf))))

/-- The order of products (R37, R39): an accumulation under one anchor gives the same integer and flags for every order of its
products; a run of products split in two gives what the two runs give added together; and the integer is the true sum of the
rounded products that pass the limit of R36 where that sum lies in −2^127 to 2^127 − 1, which at most 32,768 of them always
do. -/
def Obligations.AccumulationIsOrderFree : Prop := ∀ (a : Int) (ps qs : List Val) (x : AccElem),
  let run := fun (y : AccElem) (l : List Val) => l.foldl (fun e p => e.addProduct a p) y
  let kept := ps.filterMap (fun p => match p with
    | .fin g m e => if (place a g m e).2.1 then none else some (place a g m e).1
    | _ => none)
  (ps.Perm qs → run x ps = run x qs) ∧ run x (ps ++ qs) = (run x ps).addElem (run AccElem.init qs) ∧
  (-(2 ^ 127) ≤ kept.sum → kept.sum < 2 ^ 127 → (run AccElem.init ps).a.toInt = kept.sum) ∧
  (kept.length ≤ 32768 → (run AccElem.init ps).a.toInt = kept.sum)

/-- MMA.OW and MMA.AC with every tile of the chain FULL (R36, R51, R57, R63, R64): each addressed row takes the products of
the chain's tiles, tile 0 overwriting under MMA.OW, and the anchor of the instruction; every other row and anchor, the stack,
and every register but SB_STATUS and ACC_STATUS stay as they are. MMA.AC needs every addressed row at its anchor (R68). -/
def Obligations.MmaComputesRows : Prop := ∀ (q : Nat) (s : State) (w : W128) (ow : Bool),
  s.readyAt q (if ow then .mmaOw else .mmaAc) w →
  let j := mmaJob (s.quay q) (if ow then .ow else .ac) w
  let T := chainTiles (wf w 29 2)
  apronBounds (wf w 44 13 * 64) (mmaActLen w) = none → (isMx j.afmt = true → apronBounds (wf w 70 19) (mmaScaleLen w) = none) →
  s.unitFree q .cranes (wf w 42 1 = 1) (mmaRegions w) ((s.quay q).cranesAccept j.cranes)
    (s.budget q 0 ((s.quay q).cranesWith j.cranes)) →
  (∀ i, i < T → (s.quay q).tileFull j.wfmt j.half (wf w 32 2 + i * tileSlots j.wfmt) = true) →
  (ow = false → badAnchor (s.quay q) j.cranes j.m0 j.rows j.anchor = none) → s.stack.ecc = [] →
  ∃ t, exec (if ow then .mmaOw q else .mmaAc q) s = .next t ∧
    t = { s with regs := t.regs, c64 := t.c64, quays := t.quays } ∧ s.issueCounted t q ∧
    (∀ k, k ≠ qkey q 0x138 → k ≠ qkey q 0x180 → t.reg k = s.reg k) ∧
    (∀ r, r < mmaRows w → (t.quay q).anchor (j.place r).1 (j.place r).2 = j.anchor ∧
      (t.quay q).row (j.place r).1 (j.place r).2 = (List.range T).foldl (fun acc i =>
        if ow = true ∧ i = 0 then mmaProducts s q w i r else List.zipWith AccElem.addElem acc (mmaProducts s q w i r))
        ((s.quay q).row (j.place r).1 (j.place r).2)) ∧
    (∀ c m, c < 4 → m < 64 → (∀ r, r < mmaRows w → j.place r ≠ (c, m)) →
      (t.quay q).row c m = (s.quay q).row c m ∧ (t.quay q).anchor c m = (s.quay q).anchor c m) ∧
    (∃ jj : CraneJob, (t.quay q).cranes = (s.quay q).cranes ++ [jj] ∧ jj.id = (s.quay q).nextId ∧ jj.word = w ∧
      jj.cranes = j.cranes ∧ jj.waiting = [] ∧ jj.fault = none ∧ jj.shared = (s.quay q).cranes.any (·.computes)) ∧
    t.quay q = { (s.quay q).afterUnitIssue .cranes (mmaRegions w) with
      acc := (t.quay q).acc, anchors := (t.quay q).anchors, cranes := (t.quay q).cranes }

/-- MMA.LDO and MMA.LDA (R44, R45, R57, R144): each addressed row takes the elements of its ACC128 image, LDO overwriting row
and anchor, LDA adding; every other row, the stack, and every register but SB_STATUS and ACC_STATUS stay as they are. -/
def Obligations.LoadFormsReadRows : Prop := ∀ (q : Nat) (s : State) (w : W128) (ldo : Bool),
  s.readyAt q (if ldo then .mmaLdo else .mmaLda) w →
  let j := rowJob (s.quay q) (if ldo then .ldo else .lda) w
  let c := wf w 24 2
  let a := stackAddr q 0 (wf w 44 13 * 64)
  let str := wf w 57 13 * 64
  apronBounds (wf w 44 13 * 64) ((j.rows - 1) * str + 1056) = none →
  s.unitFree q .cranes false (loadRegions w) ((s.quay q).cranesAccept [c])
    (s.budget q 0 ((s.quay q).cranesWith [c])) →
  badLoad (s.quay q) j ((List.range j.rows).map (fun i => s.stack.mem.read (a + 1048 + i * str) 2)) = none →
  s.stack.ecc = [] →
  ∃ t, exec (if ldo then .mmaLdo q else .mmaLda q) s = .next t ∧
    t = { s with regs := t.regs, c64 := t.c64, quays := t.quays } ∧ s.issueCounted t q ∧
    (∀ k, k ≠ qkey q 0x138 → k ≠ qkey q 0x180 → t.reg k = s.reg k) ∧
    (∀ i, i < j.rows →
      let es := (List.range 64).map (acc128Elem (s.stack.mem.read (a + i * str) 1056))
      (t.quay q).anchor c (j.m0 + i) = j.anchor ∧
      (t.quay q).row c (j.m0 + i) = if ldo then es else List.zipWith AccElem.addElem ((s.quay q).row c (j.m0 + i)) es) ∧
    (∀ c' m, c' < 4 → m < 64 → c' ≠ c ∨ m < j.m0 ∨ j.m0 + j.rows ≤ m →
      (t.quay q).row c' m = (s.quay q).row c' m ∧ (t.quay q).anchor c' m = (s.quay q).anchor c' m) ∧
    (t.quay q).cranes = (s.quay q).cranes ++ [j] ∧
    t.quay q = { (s.quay q).afterUnitIssue .cranes (loadRegions w) with
      acc := (t.quay q).acc, anchors := (t.quay q).anchors, cranes := (t.quay q).cranes }

/-- MMA.DR (R40 to R44, R66, R145): each row is written at the address DST + i × STRIDE in the target's layout, with the
scales of its block where it has one; no other byte of the stack, no accumulator, and no register but SB_STATUS and
ACC_STATUS changes. -/
def Obligations.DrainWritesRows : Prop := ∀ (q : Nat) (s : State) (w : W128), s.readyAt q .mmaDr w →
  let j := rowJob (s.quay q) .dr w
  let dst := fun i => stackAddr q 0 (wf w 44 13 * 64 + i * (wf w 57 13 * 64))
  firstRaised (drainBounds s q w) = none →
  s.unitFree q .cranes false (drainRegions s q w) ((s.quay q).cranesAccept j.cranes)
    (s.budget q 0 ((s.quay q).cranesWith j.cranes)) →
  trapOf s q (wf w 24 2) j.m0 j.rows 0 64 = none → s.stack.ecc = [] →
  ∃ t, exec (.mmaDr q) s = .next t ∧
    t = { s with regs := t.regs, c64 := t.c64, quays := t.quays, stack := { s.stack with mem := t.stack.mem } } ∧
    s.issueCounted t q ∧ (∀ k, k ≠ qkey q 0x138 → k ≠ qkey q 0x180 → t.reg k = s.reg k) ∧
    t.stack.mem = (List.range j.rows).foldl (fun m i => m.write (dst i) (drainBytes s q w i)) s.stack.mem ∧
    (∀ a, (∀ i, i < j.rows → ¬ (dst i ≤ a ∧ a < dst i + drainRowBytes (wf w 38 3))) →
      t.stack.mem.get a = s.stack.mem.get a) ∧
    t.quay q = { (s.quay q).afterUnitIssue .cranes (drainRegions s q w) with cranes := (s.quay q).cranes ++ [j] }

/-- STREAM_BEHIND_TILE_LOAD (R56): once the slots of the tile that a stream-behind MMA waits for are FULL, the tile passes
across every row; after the last tile the weight half is released. MMA_DONE (R63, R70 to R73, R169, R180): an instruction that is
the first on each of its cranes leaves them and its entries are released. Of the counters only those of the cranes move: CRANE_ACT
by the compute clocks of a compute form, FRZ_ACT, FRZ_ACCP and FRZ_DRAIN only for forms that they speak of, FRZ_ANY by no less than
the longest and no more than all of them, by clocks that bank traffic decides (entry 3), FRZ_WB not at all. One that met a data
fault records it, PRECISE only if no later instruction has issued. One that is not first, or waits for a tile, stays. -/
def Obligations.CranesLoadAndFinish : Prop :=
  (∀ (q crane : Nat) (s : State) (j : CraneJob) (i slot : Nat),
    (s.quay q).cranes = [j] → j.cranes.contains crane = true → j.waiting = [(i, slot)] →
    (s.quay q).tileEmpty j.wfmt j.half slot = false →
    ((s.quay q).slotsDone j.half (slot + tileSlots j.wfmt - 1)).tileFull j.wfmt j.half slot = true →
    (∀ c ∈ j.cranes, c < 4) → j.cranes.Nodup → 0 < j.rows → j.m0 + j.rows ≤ 64 →
    ∃ t, exec (.streamBehindTileLoad q crane) s = .next t ∧ t = { s with regs := t.regs, quays := t.quays } ∧
      (∀ q', q' ≠ q → t.quay q' = s.quay q') ∧ (∀ k, k ≠ qkey q 0x180 → t.reg k = s.reg k) ∧
      (t.quay q).cranes = [{ j with waiting := [] }] ∧
      (t.quay q).sb = (s.quay q).sb.filter (fun e => !(e.id = j.id && e.region.kind = .half)) ∧
      (∀ r, r < j.cranes.length * j.rows →
        let d := tileProducts (s.quay q) j i slot r
        (t.quay q).row (j.place r).1 (j.place r).2 =
          if j.form = .ow ∧ i = 0 then d else List.zipWith AccElem.addElem ((s.quay q).row (j.place r).1 (j.place r).2) d)) ∧
  (∀ (q crane : Nat) (s : State) (j : CraneJob),
    (s.quay q).craneHead crane = some j →
    let first := ∀ c ∈ j.cranes, ∀ k, (s.quay q).craneHead c = some k → k.id = j.id
    let left := fun (x : Quay) => { x with
      sb := x.sb.filter (fun e => e.id != j.id), cranes := x.cranes.filter (fun k => k.id != j.id) }
    (first → j.waiting = [] → j.fault = none → ∃ (t : State) (act ff fp fd any' : Nat),
      exec (.mmaDone q crane) s = .next t ∧ t = { s with c64 := t.c64, quays := t.quays, free := t.free } ∧
      (∀ q', q' ≠ q → t.quay q' = s.quay q') ∧ t.quay q = left (s.quay q) ∧
      (j.shared = false → act = if j.computes then j.clocks else 0) ∧ act ≤ (if j.computes then j.clocks else 0) ∧
      (j.form = .dr → ff = 0) ∧ (j.readsAcc = false → fp = 0) ∧ (j.form ≠ .dr → fd = 0) ∧
      max ff (max fp fd) ≤ any' ∧ any' ≤ ff + fp + fd ∧
      t.cnt64 (qkey q 0x1A0) = s.countAfter (qkey q 0x1D0) (qkey q 0x1A0) any' ∧
      t.cnt64 (qkey q 0x1B0) = s.countAfter (qkey q 0x1D0) (qkey q 0x1B0) ff ∧
      t.cnt64 (qkey q 0x1B8) = s.countAfter (qkey q 0x1D0) (qkey q 0x1B8) fp ∧
      t.cnt64 (qkey q 0x1C0) = s.countAfter (qkey q 0x1D0) (qkey q 0x1C0) fd ∧
      t.cnt64 (qkey q 0x1C8) = s.countAfter (qkey q 0x1D0) (qkey q 0x1C8) act ∧
      (∀ k, k ∉ [0x1A0, 0x1B0, 0x1B8, 0x1C0, 0x1C8].map (qkey q) → t.cnt64 k = s.cnt64 k)) ∧
    (∀ code info, first → j.waiting = [] → j.fault = some (code, info) → (s.quay q).st = .run →
      ∃ t u, exec (.mmaDone q crane) s = .next t ∧
        s.faultsTo u q code j.index info (decide ((s.quay q).nextId = j.id + 1)) ∧
        (code < 0x70 → t = { s with regs := t.regs, c64 := t.c64, quays := t.quays } ∧ t.quay q = left (u.quay q)) ∧
        (0x70 ≤ code → t.quay q = { left (u.quay q) with acc := (t.quay q).acc, anchors := (t.quay q).anchors } ∧
          (j.form = .dr → (t.quay q).acc = (s.quay q).acc ∧ (t.quay q).anchors = (s.quay q).anchors ∧
            ∀ a, (∀ i, i < j.rows → ¬ (stackAddr q 0 (wf j.word 44 13 * 64 + i * (wf j.word 57 13 * 64)) ≤ a ∧
              a < stackAddr q 0 (wf j.word 44 13 * 64 + i * (wf j.word 57 13 * 64)) + drainRowBytes (wf j.word 38 3))) →
              t.stack.mem.get a = s.stack.mem.get a) ∧
          (j.form ≠ .dr → t.stack = s.stack)) ∧
        (∀ k, t.reg k = u.reg k) ∧ (∀ k, t.cnt64 k = u.cnt64 k) ∧ (∀ q', q' ≠ q → t.quay q' = s.quay q')) ∧
    (¬ first ∨ j.waiting ≠ [] → exec (.mmaDone q crane) s = .next s))

/-! ### Vector engine (R74 to R103, R466) -/

/-- VCH, VCMP and VEXP on an idle VE (R97, R98, R102, R162, R165, R466): the instruction issues and runs; its live entries stand,
but for those of the record and the scale blocks, which are latched; and the only bytes of the stack it may change are the elements
of its destinations. The accumulators, the weight buffer and every register but SB_STATUS, VE_STATUS, LUT_TAG and ACC_STATUS stay
as they are; the counter of a VCMP takes its count at the end of the scan. -/
def Obligations.VectorInstructionsRun : Prop := ∀ (q : Nat) (s : State) (w : W128) (op : Op) (work : VeWork),
  op = .vch ∨ op = .vcmp ∨ op = .vexp → s.readyAt q op w → s.veReady q w work →
  let rd : Reader := fun a n => s.apron q a n
  ∃ t, exec (if op = .vch then .vch q else if op = .vcmp then .vcmp q else .vexp q) s = .next t ∧
    t = { s with regs := t.regs, c64 := t.c64, quays := t.quays, stack := { s.stack with mem := t.stack.mem } } ∧
    s.issueCounted t q ∧ (∀ k, k ∉ veKeys q → t.reg k = s.reg k) ∧
    (∀ a, (∀ p ∈ veDests work, ¬ (stackAddr q 0 p.1 ≤ a ∧ a < stackAddr q 0 p.1 + p.2)) →
      t.stack.mem.get a = s.stack.mem.get a) ∧
    (∃ j : VeJob, (t.quay q).ve = some j ∧ j.id = (s.quay q).nextId ∧ j.word = w ∧ j.started = true ∧ j.ran = 0 ∧
      (j.scan = none ↔ op ≠ .vcmp)) ∧
    (t.quay q).sb = ((s.quay q).newEntries .ve (veRegions rd work)).filter (fun e => !(veLatched rd w).contains e.region) ∧
    t.quay q = { (s.quay q).afterIssue ((s.quay q).pc + 1) with
      sb := (t.quay q).sb, ve := (t.quay q).ve, lut := (t.quay q).lut }

/-- VE_START (R98, R163, R466): the VE starts the instruction that waits, or the one that has issued to it; its values are in place,
with its length in qclk and what it gives back before its end, and the only bytes of the stack it may change are the elements of its
destinations. Where a trap of ACC_CTRL holds (R50, R82, R180) it writes no element: the VE is free again, the fault is recorded,
PRECISE only if no later instruction has issued. VE_DONE (R97, R103, R150, R169): the VE is free, the instruction's entries are
released, the counter of a VCMP whose scan had not ended holds its count, and VE_ACT counts its clocks with those that apron stalls
added, VE_STALL those alone (entry 3), unless VE_CNT_CTRL.HOLD stops them. -/
def Obligations.VectorQueueAdvances : Prop :=
  (∀ (q : Nat) (s : State) (j : VeJob) (work : VeWork),
    ((s.quay q).ve = none ∧ (s.quay q).veWait = some j) ∨ ((s.quay q).ve = some j ∧ j.started = false) →
    veCheck (fun a n => j.latched.read a n) j.word = .ok work → s.stack.ecc = [] →
    let rd : Reader := fun a n => j.latched.read a n
    let wait := if (s.quay q).ve = none then none else (s.quay q).veWait
    let u := s.setQuay q { s.quay q with ve := some j, veWait := wait }
    (veTrap s q work.inputs = none → ∃ t, exec (.veStart q) s = .next t ∧
      t = { s with regs := t.regs, quays := t.quays, stack := { s.stack with mem := t.stack.mem } } ∧
      (∀ q', q' ≠ q → t.quay q' = s.quay q') ∧ (∀ k, k ∉ veKeys q → t.reg k = s.reg k) ∧
      (∀ a, (∀ p ∈ veDests work, ¬ (stackAddr q 0 p.1 ≤ a ∧ a < stackAddr q 0 p.1 + p.2)) →
        t.stack.mem.get a = s.stack.mem.get a) ∧
      (t.quay q).ve = some { j with dur := work.clocks u q, started := true, ran := 0, scan := work.scan u q,
                                    frees := work.frees rd u q } ∧
      t.quay q = { s.quay q with veWait := wait, ve := (t.quay q).ve, lut := (t.quay q).lut }) ∧
    (∀ code info, veTrap s q work.inputs = some (code, info) → (s.quay q).st = .run →
      ∃ t, exec (.veStart q) s = .next t ∧
        t = { s with regs := t.regs, c64 := t.c64, quays := t.quays } ∧ (∀ q', q' ≠ q → t.quay q' = s.quay q') ∧
        t.reg (qkey q 0x20) =
          w32 (1 + 4 * bit (decide ((s.quay q).nextId = j.id + 1)) + code * 2 ^ 8 + (j.index % 4096) * 2 ^ 16) ∧
        t.reg (qkey q 0x24) = w32 info ∧ t.cnt64 (qkey q 0x28) = s.now ∧
        t.cnt64 (qkey q 0x208) = s.countAfter (qkey q 0x218) (qkey q 0x208) (work.trapClocks u q) ∧
        (∀ k, k ∉ [qkey q 0x20, qkey q 0x24, qkey q 0x204] → t.reg k = s.reg k) ∧
        t.quay q = { s.quay q with
          st := .draining, drainTo := .faulted, pc := BitVec.ofNat 13 (j.index % 4096), hold := .none, stall := .none,
          confHeld := 0, veWait := wait, ve := none, lut := (t.quay q).lut,
          sb := (s.quay q).sb.filter (fun e => e.id != j.id) })) ∧
  (∀ (q : Nat) (s : State) (j : VeJob), (s.quay q).ve = some j → j.started = true →
    let stall := Config.freeCount s.free
    ∃ t, exec (.veDone q) s = .next t ∧ t = { s with regs := t.regs, c64 := t.c64, quays := t.quays, free := s.free + 1 } ∧
      (∀ q', q' ≠ q → t.quay q' = s.quay q') ∧
      t.quay q = { s.quay q with ve := none, sb := (s.quay q).sb.filter (fun e => e.id != j.id) } ∧
      (j.scan = none → ∀ k, t.reg k = s.reg k) ∧
      (∀ n c v, j.scan = some (n, c, v) → t.reg (kCnt q c) = v ∧ ∀ k, k ≠ kCnt q c → t.reg k = s.reg k) ∧
      (j.scan.all (fun e => decide (e.2.1 < 16)) = true →
        t.cnt64 (qkey q 0x208) = s.countAfter (qkey q 0x218) (qkey q 0x208) (j.dur + stall) ∧
        t.cnt64 (qkey q 0x210) = s.countAfter (qkey q 0x218) (qkey q 0x210) stall ∧
        ∀ k, k ≠ qkey q 0x208 → k ≠ qkey q 0x210 → t.cnt64 k = s.cnt64 k))

/-! ### Quay commands, logbook and parameter registers (R151, R160, R172 to R174, R178 to R185, R265) -/

/-- QCMD STOP, RESUME and RESTART (R179, R182, R189): what each leaves where it is accepted, and CMD_REJ with no other effect
where it is not. -/
def Obligations.QuayCommands : Prop := ∀ (q : Nat) (s : State) (atTide : Bool),
  let x := s.quay q
  let mayStop := s.enabled q = true ∧ x.st = .run
  let mayResume := s.enabled q = true ∧ s.chartRuns = true ∧
    (x.st = .halted ∨ x.st = .stopped ∨ (x.st = .faulted ∧ getBits (s.reg (qkey q 0x20)) 2 1 = 1))
  let mayRestart := s.enabled q = true ∧ s.chartRuns = true ∧ x.st.isStopped = true ∧ s.logLen q ≠ 0
  let running := fun (t : State) (pc : BitVec 13) =>
    t = { s with regs := t.regs, quays := t.quays } ∧ (∀ q', q' ≠ q → t.quay q' = s.quay q') ∧
    t.reg (qkey q 0x20) = s.reg (qkey q 0x20) &&& 0xFFFFFFF8 ∧ (∀ k, k ≠ qkey q 0x20 → t.reg k = s.reg k) ∧
    t.quay q = { x with st := .run, pc := pc, hold := if atTide then .atTide else .none, stall := .none, confHeld := 0,
                        pt := s.tideIdx, sb := [], latch := none, patched := [] }
  let rejected := fun (t : State) =>
    t = { s with regs := t.regs } ∧ t.reg (qkey q 0x10) = s.reg (qkey q 0x10) ||| 1 ∧
    ∀ k, k ≠ qkey q 0x10 → t.reg k = s.reg k
  (mayStop → ∃ t, exec (.qcmdStop q) s = .next t ∧ t = { s with quays := t.quays } ∧
    (∀ q', q' ≠ q → t.quay q' = s.quay q') ∧
    t.quay q = { x with st := .draining, drainTo := .stopped, hold := .none, stall := .none, confHeld := 0 }) ∧
  (¬ mayStop → ∃ t, exec (.qcmdStop q) s = .next t ∧ rejected t) ∧
  (mayResume → ∃ t, exec (.qcmdResume q atTide) s = .next t ∧ running t (if x.st = .halted then x.pc + 1 else x.pc)) ∧
  (¬ mayResume → ∃ t, exec (.qcmdResume q atTide) s = .next t ∧ rejected t) ∧
  (mayRestart → ∃ t, exec (.qcmdRestart q atTide) s = .next t ∧
    running t (BitVec.ofNat 13 (getBits (s.reg (qkey q 0xC)) 0 12))) ∧
  (¬ mayRestart → ∃ t, exec (.qcmdRestart q atTide) s = .next t ∧ rejected t)

/-- QCMD RESET of a stopped quay and its end (R69, R151, R182, R183, R185): parameters, counters, fail tallies, CMPSTAT, the
fault record and the issue counters read 0, accumulators and weight-buffer marks are cleared, the pending batch is gone, and
the stack and the logbook keep their bytes; QUAY_RESET_DONE then leaves the quay IDLE with the program counter it had.
QUAY_DRAIN_DONE (R179, R425): once every unit is idle the quay enters the state it drained toward; a halt or a fault also
notifies source q. -/
def Obligations.ResetClearsAndDrainEnds : Prop :=
  (∀ (q : Nat) (s : State), q < 144 →
    (s.enabled q = true → (s.quay q).st.isStopped = true → ∃ t, exec (.qcmdReset q) s = .next t ∧
      t = { s with regs := t.regs, c64 := t.c64, staged := t.staged, quays := t.quays } ∧
      (∀ q', q' ≠ q → t.quay q' = s.quay q') ∧
      (∀ i, i < 64 → t.reg (kParam q i) = 0 ∧ tabFind t.staged (kParam q i) = none ∧
        tabFind t.staged (kParam q i + 0x800) = none) ∧
      (∀ n, n < 16 → t.reg (kCnt q n) = 0 ∧ t.reg (kFail q n) = 0) ∧ t.reg (qkey q 0x580) = 0 ∧
      t.reg (qkey q 0x20) = 0 ∧ t.reg (qkey q 0x24) = 0 ∧ t.cnt64 (qkey q 0x28) = 0 ∧
      (∀ i, i < 6 → t.cnt64 (qkey q (0x100 + 8 * i)) = 0) ∧ t.reg (qkey q 0x204) = 0 ∧
      getBits (t.reg (qkey q 0x30)) 0 2 = 0 ∧
      t.quay q = { s.quay q with st := .reset, armed := none, acc := [], anchors := [], slots := [], lut := [], sb := [],
                                 hold := .none, stall := .none, confHeld := 0 } ∧
      (∀ k, k < kParam q 0 ∨ qkey q 0x584 ≤ k → k ∉ resetKeys q → t.reg k = s.reg k)) ∧
    ((s.quay q).st = .reset → ∃ t, exec (.quayResetDone q) s = .next t ∧ t = { s with quays := t.quays } ∧
      (∀ q', q' ≠ q → t.quay q' = s.quay q') ∧ t.quay q = { s.quay q with st := .idle })) ∧
  (∀ (q : Nat) (s : State), q < 144 → (s.quay q).st = .draining →
    (s.quay q).idleUnits = true →
    ∃ t, exec (.quayDrainDone q) s = .next t ∧ t = { s with regs := t.regs, quays := t.quays, out := t.out } ∧
      (∀ q', q' ≠ q → t.quay q' = s.quay q') ∧ s.regsBut t [] ∧
      ((s.quay q).drainTo = .stopped → t.quay q = { s.quay q with st := .stopped, sb := [] } ∧ t.out = s.out) ∧
      ((s.quay q).drainTo = .halted → t.quay q = { s.quay q with st := .halted, sb := [] } ∧ t.noted q) ∧
      ((s.quay q).drainTo = .faulted → t.quay q = { s.quay q with st := .faulted, sb := [] } ∧ t.noted q))

/-- Writes of LOG_LEN, LOG_START and PARAMi (R160, R172 to R174, R420 to R422): stored by the write form of the quay group;
the logbook registers only while the quay is stopped, else LOG_REFUSED; a parameter, whole or its bits [31:16] by PARAMi_H, is
staged while the chart is RUNNING or STOPPING and applies at once otherwise. -/
def Obligations.QuayRegisterWrites : Prop := ∀ (rq : Req) (q : Nat) (d : W32) (s : State),
  let f := writeForm (s.maskMode 5) false d
  let free := s.enabled q = true ∧ (s.quay q).st.isStopped = true
  let len := getBits (mergeBits (s.reg (qkey q 8)) f) 0 13
  (free → len ≤ 4096 → ∃ t, exec (.logLenWrite rq q d) s = .next t ∧ t = { s with regs := t.regs } ∧
    t.reg (qkey q 8) = w32 len ∧ ∀ k, k ≠ qkey q 8 → t.reg k = s.reg k) ∧
  (¬ free → ∃ t, exec (.logLenWrite rq q d) s = .next t ∧ t = { s with regs := t.regs } ∧
    t.reg (qkey q 0x10) = s.reg (qkey q 0x10) ||| 2 ∧ ∀ k, k ≠ qkey q 0x10 → t.reg k = s.reg k) ∧
  (free → ∃ t, exec (.logStartWrite rq q d) s = .next t ∧ t = { s with regs := t.regs } ∧
    t.reg (qkey q 0xC) = w32 (getBits (mergeBits (s.reg (qkey q 0xC)) f) 0 12) ∧ ∀ k, k ≠ qkey q 0xC → t.reg k = s.reg k) ∧
  (¬ free → ∃ t, exec (.logStartWrite rq q d) s = .next t ∧ t = { s with regs := t.regs } ∧
    t.reg (qkey q 0x10) = s.reg (qkey q 0x10) ||| 2 ∧ ∀ k, k ≠ qkey q 0x10 → t.reg k = s.reg k) ∧
  (∀ i upper, i < 64 →
    let g : W32 × W32 := if upper then (f.1 &&& 0xFFFF, f.2 &&& 0xFFFF) else f
    let old := s.pendingOf q (kParam q i)
    let v := mergeBits (if upper then old >>> 16 else old) g
    let waits := s.chartState = 4 ∨ s.chartState = 5
    (g.2 = 0 → exec (.paramWrite rq q i upper d) s = .next s) ∧
    (g.2 ≠ 0 → ¬ waits → ∃ t, exec (.paramWrite rq q i upper d) s = .next t ∧ t = { s with regs := t.regs } ∧
      t.reg (kParam q i) = (if upper then (s.reg (kParam q i) &&& 0xFFFF) ||| (v <<< 16) else v) ∧
      ∀ k, k ≠ kParam q i → t.reg k = s.reg k) ∧
    (g.2 ≠ 0 → waits → ∃ t, exec (.paramWrite rq q i upper d) s = .next t ∧ t = { s with staged := t.staged } ∧
      ∀ k, tabFind t.staged k =
        if k = kParam q i + (if upper then 0x800 else 0) then some v else tabFind s.staged k))

/-- ARMING_POINT (R174, R188, R277, R321): 64 ns before the boundary the batch of every enabled quay is fixed with MODE and
PATCH_AT as they stand, its staging is empty, and its clocks are ungated; the stack, the parameters and every register but ROW_LATE
are as the time up to then leaves them, and ROW_LATE too where no tide of this chart runs yet. -/
def Obligations.ArmingFixesBatches : Prop := ∀ (s : State),
  let waits := s.chartState = 3 ∨ (s.stby = 4 ∧ s.tide.loaded = true)
  let u := s.passTo (s.nextBnd - 64)
  ((s.chartRuns = true ∧ s.tide.applied = true) ∨ waits) →
  ∃ t, exec .armingPoint s = .next t ∧ t.stack = s.stack ∧ t.chartBuf = s.chartBuf ∧ t.windows = s.windows ∧
    (∀ q, s.enabled q = true →
      t.quay q = { u.quay q with
        armed := some (s.staged.filter (fun p => decide (qkey q 0 ≤ p.1) && decide (p.1 < qkey q 0 + 0x10000)),
          BitVec.ofNat 2 (getBits (u.reg (qkey q 0x30)) 0 2), BitVec.ofNat 16 (getBits (u.reg (qkey q 0x34)) 0 16)),
        gated := false } ∧
      ∀ i, i < 64 → tabFind t.staged (kParam q i) = none ∧ tabFind t.staged (kParam q i + 0x800) = none) ∧
    (∀ q, s.enabled q = false → t.quay q = u.quay q) ∧ (∀ k, k ≠ kMb 0x34 → t.reg k = u.reg k) ∧
    (waits → ∀ k, t.reg k = u.reg k)

/-- The counter-clear, record-drop and log POP commands (R73, R103, R133, R185, R216, R237, R264, R265, R349, R382): the
counters named read 0, the record or oldest entry leaves, and every other counter and register, but SB_MAX and SEND_REC.REC
where named, stays as before. -/
def Obligations.ClearsAndPops : Prop :=
  (∀ (q p : Nat) (s : State),
    let cleared := fun (t : State) (k n : Nat) =>
      t = { s with c64 := t.c64 } ∧ (∀ k', k ≤ k' → k' < k + n → t.cnt64 k' = 0) ∧
      (∀ k', k' < k ∨ k + n ≤ k' → t.cnt64 k' = s.cnt64 k')
    (∃ t, exec (.craneCntClr q) s = .next t ∧ cleared t (qkey q 0x1A0) 0x30) ∧
    (∃ t, exec (.veCntClr q) s = .next t ∧ cleared t (qkey q 0x208) 0x10) ∧
    (∃ t, exec (.portCntClr p) s = .next t ∧ cleared t (pkey p 0x10) 0x28) ∧
    (∃ t, exec .fabCntClr s = .next t ∧ cleared t (kFab 0x30) 0x40) ∧
    (∃ t, exec (.issCntClr q) s = .next t ∧ t = { s with regs := t.regs, c64 := t.c64 } ∧
      (∀ k, qkey q 0x100 ≤ k → k < qkey q 0x130 → t.cnt64 k = 0) ∧
      (∀ k, k < qkey q 0x100 ∨ qkey q 0x130 ≤ k → t.cnt64 k = s.cnt64 k) ∧
      t.reg (qkey q 0x138) = putBits (s.reg (qkey q 0x138)) 8 6 (s.quay q).sb.length ∧
      ∀ k, k ≠ qkey q 0x138 → t.reg k = s.reg k) ∧
    (∃ t, exec (.sendRecDrop0 q) s = .next t ∧ t = { s with regs := t.regs, quays := t.quays } ∧
      t.quay q = { s.quay q with recs0 := [] } ∧ (∀ q', q' ≠ q → t.quay q' = s.quay q') ∧
      t.reg (qkey q 0x600) = putBits (s.reg (qkey q 0x600)) 0 3 0 ∧ ∀ k, k ≠ qkey q 0x600 → t.reg k = s.reg k) ∧
    (∃ t, exec (.sendRecDrop1 q) s = .next t ∧ t = { s with regs := t.regs, quays := t.quays } ∧
      t.quay q = { s.quay q with recs1 := [] } ∧ (∀ q', q' ≠ q → t.quay q' = s.quay q') ∧
      t.reg (qkey q 0x600) = putBits (s.reg (qkey q 0x600)) 4 3 0 ∧ ∀ k, k ≠ qkey q 0x600 → t.reg k = s.reg k)) ∧
  (∀ (s : State),
    exec .eccLogPop s = .next { s with eccLog := s.eccLog.tail } ∧
    exec .extLogPop s = .next { s with extLog := s.extLog.tail } ∧
    exec .flogPop s = .next { s with fabLog := s.fabLog.tail } ∧
    exec .slogPop s = .next { s with siloLog := s.siloLog.tail } ∧
    exec .wlogPop s = .next { s with wakeLog := s.wakeLog.tail })

/-! ### Memory stack (R105 to R133) -/

/-- ECC_WRITEBACK and SCRUB_LINE (R122 to R124): a corrected codeword is rewritten clean, one that does not decode stays
marked; the bytes of the stack do not change. In Stillwater no line is scrubbed outside a refresh window (R309). THERM_SAMPLE
(R127, R133, R312, R339, R345): MEM_THERM shows the sample, 5 °C higher where the trims are bad; the refresh class rises at once
above 85 °C and above 95 °C, and does not fall while the temperature is not 3 °C below the threshold; a class above the one that the
running chart declares breaches Stillwater. The logic die's temperature is kept for the exit from a trip. -/
def Obligations.CorrectionAndTemperature : Prop :=
  (∀ (q : Nat) (s : State),
    (∀ (space : BitVec 2) (ofs : Nat),
      let a := stackAddr q space.toNat ofs
      ∃ t, exec (.eccWriteback space q ofs) s = .next t ∧ t = { s with stack := { s.stack with ecc := t.stack.ecc } } ∧
        ∀ m, m ∈ t.stack.ecc ↔ m ∈ s.stack.ecc ∧ ¬ (m.2 = .corrected ∧ m.1 ≤ a ∧ a < m.1 + cwBytes m.1)) ∧
    (s.stillwater = true → exec (.scrubLine q) s = .next s) ∧
    (s.enabled q = true → s.stillwater = false →
      let p := tabGet s.stack.scrub q (0, 0)
      let hit := fun (m : Nat × EccMark) (a n : Nat) => m.1 < a + n ∧ a < m.1 + cwBytes m.1
      ∃ t, exec (.scrubLine q) s = .next t ∧
        t = { s with regs := t.regs, c64 := t.c64, eccLog := t.eccLog, out := t.out,
                     stack := { s.stack with ecc := t.stack.ecc, scrub := t.stack.scrub } } ∧
        tabGet t.stack.scrub q (0, 0) = ((p.1 + 1) % 196608, (p.2 + 1) % 629146) ∧
        s.regsBut t [kMem 4] ∧
        ∀ m, m ∈ t.stack.ecc ↔ m ∈ s.stack.ecc ∧ ¬ (m.2 = .corrected ∧
          (hit m (stackAddr q 1 (256 * p.1)) 256 ∨
           hit m (stackAddr q 2 (320 * p.2)) (min 320 (0xC000000 - 320 * p.2)))))) ∧
  (∀ (temp logic : BitVec 12) (col : BitVec 6) (s : State),
    let v := if s.calBad 2 then min 4095 (temp.toNat + 80) else temp.toNat
    ∃ t, exec (.thermSample ⟨temp, logic⟩ col) s = .next t ∧
      t = { s with regs := t.regs, out := t.out,
                   stack := { s.stack with cool1 := t.stack.cool1, cool2 := t.stack.cool2 },
                   power := { s.power with logicTemp := logic, coolSince := t.power.coolSince } } ∧
      (let above := s.chartRuns = true ∧ ∃ c, s.tide.chart = some c ∧ c.refreshClass < getBits (t.reg (kMem 0)) 18 2
       (above → s.stillwater = true → t.reg 0x84 = s.reg 0x84 ||| 0x20 ∧ t.noted 167 ∧ s.regsBut t [kMem 0, 0x84]) ∧
       (¬ above ∨ s.stillwater = false → t.out = s.out ∧ ∀ k, k ≠ kMem 0 → t.reg k = s.reg k)) ∧
      getBits (t.reg (kMem 0)) 0 12 = v ∧ getBits (t.reg (kMem 0)) 12 6 = col.toNat ∧
      (1520 < v → getBits (t.reg (kMem 0)) 18 2 = 2) ∧
      (1360 < v → 1 ≤ getBits (t.reg (kMem 0)) 18 2) ∧
      (1472 < v → getBits (s.reg (kMem 0)) 18 2 = 2 → getBits (t.reg (kMem 0)) 18 2 = 2) ∧
      (1312 < v → 1 ≤ getBits (s.reg (kMem 0)) 18 2 → 1 ≤ getBits (t.reg (kMem 0)) 18 2) ∧
      (v ≤ 1312 → 10000000 ≤ s.now.toNat - ((s.stack.cool1.getD s.now)).toNat → getBits (t.reg (kMem 0)) 18 2 ≤
        (if 10000000 ≤ s.now.toNat - ((s.stack.cool2.getD s.now)).toNat then 0 else 2)) ∧
      t.power.coolSince = if v ≤ 1504 ∧ logic.toNat ≤ 1680 then some (s.power.coolSince.getD s.now) else none)

/-- Refresh (R128 to R131, R309, R312): a due slot changes no value; a forced one counts and is variance, and in Stillwater, where it
may happen under a chart only while the class exceeds the declared one, sets REF_FORCED and breaches; a slot past its interval marks
each of its 4,096 codewords uncorrectable, logs and sets REF_LATE; a window of the chart in Stillwater scrubs a line of every enabled
column. REPAIR_CMD with GO and its end (R122, R125, R126, R132, R133): a good entry of a stopped quay with a spare left begins its
copy; done, it joins the repair table, no codeword of the old row or group stays corrected only, and REPAIR_DONE is set; with no
spare left nothing begins and REPAIR_NOSPARE is logged; a reserved entry, or a quay that is not stopped, is REG_RSVD. -/
def Obligations.RefreshAndRepair : Prop :=
  (∀ (q : Nat) (s : State),
    exec (.refreshSlot q) s = .next s ∧
    (s.enabled q = true →
      (s.mayForce = false → exec (.refreshForced q) s = .next s) ∧
      (s.stillwater = true → s.chartRuns = true → s.classExceeded = false → s.mayForce = false) ∧
      (s.mayForce = true → ∃ t, exec (.refreshForced q) s = .next t ∧
        t = { s with regs := t.regs, c64 := t.c64, out := t.out, tide := { s.tide with var := s.tide.var ||| 4 } } ∧
        t.cnt64 (kMem 0x30) = s.cnt64 (kMem 0x30) + 1 ∧ (∀ k, k ≠ kMem 0x30 → t.cnt64 k = s.cnt64 k) ∧
        s.regsBut t [kMem 4, 0x84] ∧
        (s.stillwater = true → s.classExceeded = true →
          t.reg (kMem 4) = s.reg (kMem 4) ||| 2 ∧ t.reg 0x84 = s.reg 0x84 ||| 0x20 ∧ t.noted 167) ∧
        (s.stillwater = false ∨ s.classExceeded = false → t.regs = s.regs ∧ t.out = s.out))) ∧
    (∀ slot, s.enabled q = true → slot < 1536 →
      let a := stackAddr q 2 (slot * slotBytes)
      ∃ t, exec (.refLate q slot) s = .next t ∧
        t = { s with regs := t.regs, c64 := t.c64, eccLog := t.eccLog, out := t.out,
                     stack := { s.stack with ecc := t.stack.ecc } } ∧
        (∀ i, i < 4096 → (a + 32 * i, EccMark.uncorrectable) ∈ t.stack.ecc) ∧
        (∀ m, m ∈ t.stack.ecc → m ∈ s.stack.ecc ∨ (a ≤ m.1 ∧ m.1 < a + slotBytes ∧ m.2 = .uncorrectable)) ∧
        getBits (t.reg (kMem 4)) 2 1 = 1 ∧ t.noted 163 ∧ s.regsBut t [kMem 4]) ∧
    (∀ w c, w < 4 → s.tide.chart = some c → s.stillwater = true → w < c.windows.length →
      ∃ t, exec (.refreshWindow w) s = .next t ∧
        t = { s with regs := t.regs, c64 := t.c64, eccLog := t.eccLog, out := t.out,
                     stack := { s.stack with ecc := t.stack.ecc, scrub := t.stack.scrub } } ∧
        (∀ n, s.enabled n = true →
          tabGet t.stack.scrub n (0, 0) = (((tabGet s.stack.scrub n (0, 0)).1 + 1) % 196608,
                                           ((tabGet s.stack.scrub n (0, 0)).2 + 1) % 629146)) ∧
        s.regsBut t [kMem 4])) ∧
  (∀ (d : W32) (s : State),
    let r := repairOf d
    let used := ((s.stack.repairs ++ s.stack.repairing).filter
      (fun x => x.group = r.group && x.die = r.die && x.quay = r.quay)).length
    (getBits d 31 1 = 1 → repairBad r = false → (s.quay r.quay).st.isStopped = true → used < spares r.group r.die →
      ∃ t, exec (.repairCmdGo d) s = .next t ∧
        t = { s with regs := t.regs, stack := { s.stack with repairing := s.stack.repairing ++ [r] } } ∧
        t.reg (kMem 0x200) = d &&& 0x7FF87FFF ∧ ∀ k, k ≠ kMem 0x200 → t.reg k = s.reg k) ∧
    (getBits d 31 1 = 1 → repairBad r = false → (s.quay r.quay).st.isStopped = true → spares r.group r.die ≤ used →
      ∃ t, exec (.repairCmdGo d) s = .next t ∧ t = { s with regs := t.regs, out := t.out } ∧ .logged 0x76 ∈ t.out ∧
        t.reg (kMem 0x200) = d &&& 0x7FF87FFF ∧ s.regsBut t [kMem 0x200]) ∧
    (getBits d 31 1 = 1 → repairBad r = true ∨ (s.quay r.quay).st.isStopped = false →
      ∃ t, exec (.repairCmdGo d) s = .next t ∧ t = { s with regs := t.regs, c64 := t.c64, out := t.out } ∧
        getBits (t.reg 0x404) 3 1 = 1 ∧ t.noted 171 ∧ ∀ k, errKey k = false → t.reg k = s.reg k) ∧
    (∀ x xs, s.stack.repairing = x :: xs → ∃ t, exec .repairDone s = .next t ∧
      t = { s with regs := t.regs, c64 := t.c64, eccLog := t.eccLog, out := t.out,
                   stack := { s.stack with repairing := xs, repairs := s.stack.repairs ++ [x], ecc := t.stack.ecc } } ∧
      (∀ m, m ∈ t.stack.ecc ↔ m ∈ s.stack.ecc ∧ ¬ (m.2 = .corrected ∧ x.holds m.1 = true)) ∧
      getBits (t.reg (kMem 4)) 0 1 = 1 ∧ t.noted 163 ∧ s.regsBut t [kMem 4] ∧
      ((∀ m ∈ s.stack.ecc, x.holds m.1 = false) → t.reg (kMem 4) = s.reg (kMem 4) ||| 1 ∧ t.c64 = s.c64 ∧
        t.eccLog = s.eccLog)))

/-- SCRUB_DONE (R110, R384): the apron, the logbook and the weight buffer of the quay read 0, LOG_LEN is 0 and the quay is
IDLE; every byte of another quay, and its own hold and context columns, keep theirs. ZERO_CONTAINER_DONE (R119, R272, R385):
the container's bytes read 0, no other byte of the stack changes, its tag is cleared, it leaves the engine's list and is free
again; in Stillwater only within a refresh window of the chart (R309). -/
def Obligations.ScrubsClear : Prop :=
  (∀ (q : Nat) (s : State), q < 144 → (s.quay q).st = .scrub →
    ∃ t, exec (.scrubDone q) s = .next t ∧
      t = { s with regs := t.regs, c64 := t.c64, staged := t.staged, quays := t.quays,
                   stack := { s.stack with mem := t.stack.mem, logbook := t.stack.logbook, ecc := t.stack.ecc } } ∧
      (∀ a, t.stack.mem.get a = if stackAddr q 0 0 ≤ a ∧ a < stackAddr q 0 0 + 0x60000 then 0 else s.stack.mem.get a) ∧
      (∀ a, t.stack.logbook.get a = if logAddr q 0 ≤ a ∧ a < logAddr q 0 + 65536 then 0 else s.stack.logbook.get a) ∧
      (t.quay q).st = .idle ∧ (t.quay q).pc = (s.quay q).pc ∧ (t.quay q).wb = [] ∧ (t.quay q).acc = [] ∧ (t.quay q).slots = [] ∧
      t.reg (qkey q 8) = 0 ∧ (∀ q', q' ≠ q → t.quay q' = s.quay q') ∧
      (∀ k, k < kParam q 0 ∨ qkey q 0x584 ≤ k → k ≠ qkey q 8 → k ∉ resetKeys q → t.reg k = s.reg k)) ∧
  (∀ (q slot : Nat) (s : State), q < 144 → slot < 65536 →
    (s.zeroRuns = false → exec (.zeroContainerDone q slot) s = .next s) ∧
    (s.stillwater = true → s.chartRuns = true → (∀ c, s.tide.chart = some c → ∀ w ∈ c.windows,
      ¬ (w.start ≤ s.time.qclk ∧ s.time.qclk ≤ w.start + w.len)) → s.zeroRuns = false) ∧
    (cidOf q slot ∈ s.stack.zero → s.zeroRuns = true →
    let a := stackAddr q 2 (slot * s.stack.container)
    ∃ t, exec (.zeroContainerDone q slot) s = .next t ∧
      (∀ b, t.stack.mem.get b = if a ≤ b ∧ b < a + s.stack.container then 0 else s.stack.mem.get b) ∧
      t.stack.zero = s.stack.zero.erase (cidOf q slot) ∧ cidOf q slot ∉ t.serve.used ∧ t.tag q slot = 0 ∧
      t.stack.logbook = s.stack.logbook ∧ t.quays = s.quays ∧ t.ports = s.ports ∧ t.power = s.power))

/-! ### Chart and tide (R186 to R216) -/

/-- CHART_EN, SWITCH and CHART_STOP (R210, R213, R214, R216): where the module accepts them the submission is sampled and
the check begins, or the chart is STOPPING; where it does not, CMD_REJ is set, and so before the port distances of a boot are
recomputed (R22, entry 107). Source 160 is notified in each case but for SWITCH, whose STBY state alone changes. -/
def Obligations.ChartCommands : Prop := ∀ (buf : Bool) (s : State),
  let sub : Submission :=
    { buf := buf, startAt := s.pair (kChart 8), switchAt := s.pair (kChart 0x10), enAt := s.now, isSwitch := false,
      again := s.tide.late.any (fun l => l.1 = buf) }
  let rejected := fun (t : State) =>
    t = { s with regs := t.regs, out := t.out } ∧ getBits (t.reg (kChart 4)) 12 1 = 1 ∧ t.chartState = s.chartState ∧
    t.noted 160 ∧ s.regsBut t [kChart 0, kChart 4]
  (s.power.replan = false → s.chartEnOk false buf = true → s.now.toNat < sub.startAt.toNat →
    ∃ t, exec (.chartEn buf) s = .next t ∧ t = { s with regs := t.regs, out := t.out, tide := t.tide } ∧
      t.chartState = 1 ∧ t.noted 160 ∧ getBits (t.reg (kChart 0)) 8 1 = bit buf ∧
      t.tide = { s.tide with sub := some sub, loaded := false, loadFailed := false, ended := false } ∧
      s.regsBut t [kChart 0, kChart 4]) ∧
  (s.power.replan = false → s.chartEnOk false buf = false → ∃ t, exec (.chartEn buf) s = .next t ∧ rejected t) ∧
  (s.distValid = false → s.chartEnOk false buf = false) ∧
  (s.power.replan = false → s.chartEnOk true buf = true → s.now.toNat < sub.startAt.toNat →
    ∃ t, exec (.switch buf) s = .next t ∧ t = { s with regs := t.regs, out := t.out, tide := t.tide } ∧
      t.stby = 1 ∧ t.chartState = 4 ∧ getBits (t.reg (kChart 0)) 8 1 = bit buf ∧
      t.tide = { s.tide with succSub := some { sub with isSwitch := true, again := false }, loaded := false, loadFailed := false } ∧
      s.regsBut t [kChart 0, kChart 4]) ∧
  (s.power.replan = false → s.chartEnOk true buf = false → ∃ t, exec (.switch buf) s = .next t ∧ rejected t) ∧
  (s.power.replan = false → s.chartState = 4 → ∃ t, exec .chartStop s = .next t ∧
    t = { s with regs := t.regs, out := t.out } ∧ t.chartState = 5 ∧ t.noted 160 ∧ s.regsBut t [kChart 0, kChart 4]) ∧
  (s.power.replan = false → s.chartState ≠ 4 → ∃ t, exec .chartStop s = .next t ∧ rejected t) ∧
  (s.power.replan = true → (∃ t, exec (.chartEn buf) s = .next t ∧ rejected t) ∧
    (∃ t, exec (.switch buf) s = .next t ∧ rejected t) ∧ ∃ t, exec .chartStop s = .next t ∧ rejected t)

/-- CHART_CHECK_DONE and CHECK_TMO of a cold start (R211, R212, R384, R398): a chart that passes LOADS with its BLOCK_MODE,
routes and container size in force and each enabled quay of a basin assigned to its tenant, through SCRUB where the tenant
changes; one that fails is REFUSED with its code shown.
CHART_LOAD_DONE of a cold start with no lifeboat fill armed, no unreadable page and a mesh path from the silo to every column that
it fills (R17, R18, R172, R206, R212): the chart is ARMED with its first boundary at CHART_START, and every logbook record of a stopped quay is in place with LOG_LEN, LOG_START,
SB_LIMIT and LAG. -/
def Obligations.ChartPreparationEnds : Prop :=
  (∀ (s : State) (sub : Submission), s.stby = 0 ∨ s.stby = 5 → s.chartState = 1 →
    s.batchesOk = true → s.tide.sub = some sub → sub.isSwitch = false →
    let img := s.imageIn sub.buf
    let c := chartOf' img
    let refused := fun (t : State) (code : Nat) =>
      t.chartState = 6 ∧ getBits (t.reg (kChart 4)) 16 8 = code ∧ t.noted 160 ∧ t.tide.chart = none ∧ t.tide.sub = none ∧
      t.staged = [] ∧ (s.serve.berths = [] → t.stack = s.stack)
    (checkImage s sub.follows img = none → s.now.toNat < sub.startAt.toNat →
      ∃ t, exec .chartCheckDone s = .next t ∧ t.chartState = 2 ∧ t.tide.chart = some c ∧
        t.reg 0x400 = w32 c.blockMode.toNat ∧ t.fabric.routes = routeTable (secOf img 6) ∧ t.fabric.home = c.home ∧
        t.stack = { s.stack with container := 64 * c.tokenBytes * c.layers } ∧
        (∀ q b, s.enabled q = true → c.basinOf q = some b → t.reg (qkey q 0x40) = w32 (3 * 2 ^ 30 + b.tenant.toNat) ∧
          (t.quay q).st = if s.tenantOf q = some b.tenant.toNat then (s.quay q).st else .scrub)) ∧
    (∀ code, checkImage s sub.follows img = some code → code < 256 → ∃ t, exec .chartCheckDone s = .next t ∧ refused t code) ∧
    ((sub.enAt + 50000000).toNat < sub.startAt.toNat → ∃ t, exec .checkTmo s = .next t ∧ refused t 0xB6) ∧
    (sub.startAt.toNat ≤ (sub.enAt + 50000000).toNat → ∃ t, exec .checkTmo s = .next t ∧ refused t 0xB5)) ∧
  (∀ (map : HostRead) (stripes : List (HostRead × HostRead)) (s : State)
    (sub : Submission) (c : Chart), s.stby = 0 ∨ s.stby = 5 → s.chartState = 2 → s.tide.sub = some sub →
    sub.isSwitch = false → s.tide.chart = some c → s.tide.loaded = false → s.tide.loadFailed = false →
    s.silo.badPages = [] → getBits (s.reg (kMb 0x6C)) 0 4 ≠ 1 → (c.logbooks.map (·.quay)).Nodup →
    (∀ r ∈ c.logbooks, r.quay < 144 ∧ r.len ≤ 4096 ∧ r.params.length ≤ 64) →
    (∀ d ∈ c.shards, s.routable siloRouter (saQuay (sadr d.dst.toNat)) = true) →
    ∃ t, exec (.chartLoadDone map stripes) s = .next t ∧ t.chartState = 3 ∧ t.noted 160 ∧ t.tide.loaded = true ∧
      t.tide.base = sub.startAt ∧ t.nextBnd = sub.startAt ∧ t.tide.chart = some c ∧
      (∀ r ∈ c.logbooks, (s.quay r.quay).st.isStopped = true →
        t.reg (qkey r.quay 8) = w32 r.len ∧ t.reg (qkey r.quay 0xC) = w32 r.start ∧
        t.reg (qkey r.quay 0x13C) = w32 r.sbLimit ∧ (t.quay r.quay).lag = BitVec.ofNat 4 r.lag ∧
        ∀ i, i < 16 * r.len →
          t.stack.logbook.get (logAddr r.quay i) = (slice (s.imageIn sub.buf) r.code (16 * r.len)).getD i 0))

/-- CHART_START (R173, R187, R212): with the load complete, boundary 0 is raised at CHART_START: the chart is RUNNING, the
tide index 0, the next boundary one period later, its counters 0, and each IDLE quay of a basin with a program runs from
LOG_START; with the load not complete the chart is refused as LATE. SWITCH_DRAIN_DONE and CHART_STOP_DONE (R213, R214): once
every quay has stopped, a successor begins its load, and a stopping chart leaves none running. -/
def Obligations.ChartStartsAndDrains : Prop :=
  (∀ (s : State) (sub : Submission) (c : Chart), s.stby = 0 ∨ s.stby = 5 →
    s.batchesOk = true → s.chartState = 3 → s.tide.sub = some sub → sub.isSwitch = false → s.tide.chart = some c →
    (s.tide.loaded = true → ∃ t, exec .chartStart s = .next t ∧ t.chartState = 4 ∧ t.tideIdx = 0 ∧
      t.nextBnd = sub.startAt + w64 (160 * c.period) ∧ t.cnt64 (kChart 0x18) = c.id ∧ t.time.qclk = 0 ∧
      t.cnt64 (kChart 0x50) = 0 ∧ t.cnt64 (kChart 0x58) = 0 ∧ t.cnt64 (kChart 0x60) = 0 ∧
      (∀ q, s.enabled q = true → getBits (s.reg (qkey q 0x40)) 31 1 = 1 → (s.quay q).st = .idle → s.logLen q ≠ 0 →
        (t.quay q).st = .run ∧ (t.quay q).pc = BitVec.ofNat 13 (getBits (s.reg (qkey q 0xC)) 0 12) ∧ (t.quay q).pt = 0) ∧
      (s.serve.berths = [] → t.stack = s.stack)) ∧
    (s.tide.loaded = false → ∃ t, exec .chartStart s = .next t ∧ t.chartState = 6 ∧
      getBits (t.reg (kChart 4)) 16 8 = 0xB5 ∧ t.tide.chart = none ∧ (s.serve.berths = [] → t.stack = s.stack))) ∧
  (∀ (s : State), s.allStopped = true → s.batchesOk = true →
    (∀ c sub, s.tide.succ = some c → s.tide.succSub = some sub → s.stby = 3 →
      ∃ t, exec .switchDrainDone s = .next t ∧ t.stby = 4 ∧ t.reg 0x400 = w32 c.blockMode.toNat ∧
        t.fabric.routes = routeTable (secOf (s.imageIn sub.buf) 6) ∧ t.fabric.windows = s.fabric.windows ∧
        t.stack = { s.stack with container := 64 * c.tokenBytes * c.layers } ∧ t.tide.loaded = false) ∧
    (s.chartState = 5 → s.tide.ended = true →
      ∃ t, exec .chartStopDone s = .next t ∧ t.chartState = 0 ∧ t.noted 160 ∧ t.tide.chart = none ∧ t.staged = [] ∧
        (∀ q, q < 144 → getBits (t.reg (qkey q 0x40)) 31 1 = 0) ∧
        (s.serve.berths = [] → t.stack = s.stack)))

/-- TIDE_BOUNDARY of a chart with no elastic hold (R187, R188, R190, R197): the index advances by one, the next boundary lies
a period after this one, the qclk count restarts, TIDE_VAR shows the completed tide's sources, and a quay that waits at a
WTIDE NEXT goes on with PT at the new index. -/
def Obligations.BoundaryAdvancesTide : Prop := ∀ (s : State) (c : Chart),
  s.tide.chart = some c → s.chartRuns = true →
  s.batchesOk = true → c.elasticMax = 0 → s.tide.heldSince = none → s.tideIdx.toNat + 1 < 2 ^ 64 →
  let v := s.tide.var.toNat ||| (2 * bit (decide (s.tide.base.toNat < s.nextBnd.toNat)))
  ∃ t, exec .tideBoundary s = .next t ∧ t.tideIdx = s.tideIdx + 1 ∧ t.nextBnd = s.nextBnd + w64 (160 * c.period) ∧
    t.tide.base = s.nextBnd + w64 (160 * c.period) ∧ t.time.qclk = 0 ∧ t.reg (kChart 0x48) = w32 v ∧
    t.cnt64 (kChart 0x50) = (if v = 0 then s.cnt64 (kChart 0x50) else s.cnt64 (kChart 0x50) + 1) ∧
    t.tide.phase = 0 ∧ t.tide.decided = false ∧ t.tide.applied = false ∧
    (∀ q, s.enabled q = true → (s.quay q).st = .run → (s.quay q).hold = .tideNext →
      s.stopsAt (s.tideIdx.toNat + 1) = false →
      (t.quay q).st = .run ∧ (t.quay q).pc = (s.quay q).pc + 1 ∧ (t.quay q).pt = s.tideIdx + 1)

/-- PHASE_START (R156, R188): START_k after the boundary as it was raised, the phase registers show the phase and every quay that
waits for it issues its WTIDE. ELASTIC_HOLD (R182, R190, R195, R196): a boundary is held from the moment it was due exactly where the
chart allows it, outside Stillwater, and a quay of an ELASTIC basin would overrun that waits neither at a WTIDE NEXT nor for a
boundary to start. DECISION_POINT (R192, R234): the slack window closes, E is EXT_STEP times the largest overspend up to EXT_MAX, held
and announced on every link that is UP where it is above 0; before boundary 0 it opens the first window. APPLY_POINT (R193, R194,
R216): the largest E held moves the boundary and is logged with the stamp of the decision point. -/
def Obligations.PhasesHoldsAndExtensions : Prop :=
  (∀ (s : State) (c : Chart), s.tide.chart = some c → s.chartRuns = true →
    (∀ counts p, (c.phases.drop (s.curPhase + 1)).head? = some p → s.curPhase + 1 < 64 →
      let u := s.passTo (s.tide.raised + w64 p.start)
      let waits := fun (q : Nat) => q < 144 ∧ (s.quay q).st = .run ∧ (s.quay q).hold = .tidePhase (s.curPhase + 1)
      ∃ t, exec (.phaseStart counts) s = .next t ∧ t.curPhase = s.curPhase + 1 ∧
        t.reg (kChart 0x44) = w32 (p.tokset % 64 * 256 + 128 * bit p.prefill + (s.curPhase + 1)) ∧
        (∀ q, waits q → t.quay q = (u.quay q).afterIssue ((s.quay q).pc + 1) ∧
          t.cnt64 (qkey q 0x100) = u.issueCountAfter q 0 1) ∧
        (∀ q, ¬ waits q → t.quay q = u.quay q) ∧ t.stack = s.stack ∧ t.now = u.now ∧ t.tideIdx = s.tideIdx) ∧
    (s.tide.heldSince = none →
      let u := s.passTo s.nextBnd
      (u.mustHold c = true → ∃ t, exec .elasticHold s = .next t ∧
        t = { u with regs := t.regs, out := t.out, tide := { s.tide with heldSince := some u.now } } ∧ u.regsBut t []) ∧
      (u.mustHold c = false → exec .elasticHold s = .next u))) ∧
  (∀ (s : State) (c : Chart), s.mustHold c = true ↔ s.stillwater = false ∧ c.elasticMax ≠ 0 ∧
    ∃ q b, q < 144 ∧ s.enabled q = true ∧ (s.quay q).st = .run ∧
      (s.quay q).lag.toNat < s.tideIdx.toNat + 1 - (s.quay q).pt.toNat ∧ (s.quay q).hold ≠ .tideNext ∧
      (s.quay q).hold ≠ .atTide ∧ c.basinOf q = some b ∧ b.elastic = true) ∧
  (∀ (s : State) (c : Chart), s.tide.chart = some c → s.stby ≠ 4 →
    (s.chartState = 3 → ∃ t, exec .decisionPoint s = .next t ∧
      t = { s.passTo (s.decideAt c) with ports := t.ports } ∧
      ∀ p, p < 16 → t.port p = { s.port p with retries := 0 }) ∧
    (s.chartRuns = true → s.tide.decided = false →
      let u := s.passTo (s.decideAt c)
      let raw := c.extStep * s.overSlack c (s.worstPort c)
      let e := min raw c.extMax
      (∀ p, p < 16 → (s.port p).retries - c.slackRetry ≤ s.overSlack c (s.worstPort c)) ∧
      ∃ t, exec .decisionPoint s = .next t ∧ (∀ p, p < 16 → t.port p = { s.port p with retries := 0 }) ∧
        t = { u with ports := t.ports, out := t.out, tide := { s.tide with decided := true, exts := t.tide.exts } } ∧
        (e = 0 → t.tide.exts = s.tide.exts ∧ t.out = u.out) ∧
        (e ≠ 0 → t.tide.exts = s.tide.exts ++
            [{ boundary := s.tideIdx + 1, e := e, remote := false, port := s.worstPort c, clamp := decide (c.extMax < raw) }] ∧
          t.out = u.out ++ s.linksUp.map (fun p => Out.notice p (s.tideIdx + 1) e (s.linkIdle p)))) ∧
    (s.chartRuns = true → s.tide.applied = false →
      let u := s.passTo (s.tide.base - 160)
      ∃ t, exec .applyPoint s = .next t ∧
        t = { u with regs := t.regs, c64 := t.c64, extLog := t.extLog, out := t.out, tide := { s.tide with applied := true } } ∧
        u.regsBut t [] ∧ (∀ k, k ≠ kChart 0x38 → t.cnt64 k = u.cnt64 k) ∧
        (s.largestExt (s.tideIdx + 1) = none → t.nextBnd = s.nextBnd ∧ t.extLog = s.extLog) ∧
        (∀ x, s.largestExt (s.tideIdx + 1) = some x →
          (∀ y ∈ s.tide.exts, y.boundary = s.tideIdx + 1 → y.e ≤ x.e) ∧ x ∈ s.tide.exts ∧
          t.nextBnd = s.tide.base + w64 (160 * x.e) ∧
          (s.extLog.length < 16 → ∃ l : LogEntry, t.extLog = s.extLog ++ [l] ∧ l.ts = s.decideAt c ∧ l.w3 = lo32 x.boundary ∧
            l.w2 = w32 (2 ^ 31 + 2 ^ 29 * bit x.clamp + 2 ^ 28 * bit x.remote +
              2 ^ 24 * (if x.remote then 0 else x.port) + x.e)) ∧
          (16 ≤ s.extLog.length → t.extLog = s.extLog))))

/-! ### Fider ports and the time base (R217 to R238) -/

/-- The commands of PORT_CTRL and a drop (R221 to R225, R237, R354): EN starts training or turns the port off, RESEED trains
from the seeds, RETRAIN and a drop leave UP for RECOVERY with DOWN and no x4 shown, and LASH is stored, refused as CFG_REJ, also
where it is the stored size, or reserved. -/
def Obligations.PortControl : Prop := ∀ (p : Nat) (s : State), p < 16 →
  let x := s.port p
  let portOnly := fun (t : State) =>
    t = { s with regs := t.regs, c64 := t.c64, ports := t.ports } ∧ (∀ p', p' ≠ p → t.port p' = s.port p')
  (x.st = .off → s.portDead p = false → ∃ t, exec (.portEnWrite p true) s = .next t ∧
    t = { s with regs := t.regs, ports := t.ports } ∧ t.port p = { x with st := .detect } ∧
    (∀ p', p' ≠ p → t.port p' = s.port p') ∧ t.reg (pkey p 0) = putBits (s.reg (pkey p 0)) 0 1 1 ∧
    ∀ k, k ≠ pkey p 0 → t.reg k = s.reg k) ∧
  (s.portDead p = true → ∃ t, exec (.portEnWrite p true) s = .next t ∧ t = { s with regs := t.regs } ∧
    ∀ k, t.reg k = s.reg k) ∧
  (x.st ≠ .off → x.retry = [] → x.egress = [] → ∃ t, exec (.portEnWrite p false) s = .next t ∧ portOnly t ∧
    (t.port p).st = .off ∧ t.reg (pkey p 0) = putBits (s.reg (pkey p 0)) 0 1 0 ∧
    (x.st = .up → getBits (t.reg (pkey p 4)) 4 2 = 0) ∧
    ∀ k, k ≠ pkey p 0 → k ≠ pkey p 4 → k ≠ 0x1C00044 → t.reg k = s.reg k) ∧
  (x.st ≠ .off → x.retry = [] → x.egress = [] → ∃ t, exec (.reseed p) s = .next t ∧ portOnly t ∧
    (t.port p).st = .detect ∧ (t.port p).fromSeeds = true ∧ (x.st = .up → getBits (t.reg (pkey p 4)) 4 2 = 0) ∧
    ∀ k, k ≠ pkey p 4 → k ≠ 0x1C00044 → t.reg k = s.reg k) ∧
  (x.st = .off → ∃ t, exec (.reseed p) s = .next t ∧ portOnly t ∧ t.port p = { x with fromSeeds := true } ∧
    ∀ k, t.reg k = s.reg k) ∧
  (∀ why c, c = Instr.retrain p ∨ c = Instr.linkDrop p why →
    (x.st = .up → ∃ t, exec c s = .next t ∧ t = { s with regs := t.regs, c64 := t.c64, ports := t.ports, out := t.out } ∧
      t.port p = { x with st := .recovery, attempts := 0, rxPart := [], discarding := false, badSeen := [] } ∧
      (∀ p', p' ≠ p → t.port p' = s.port p') ∧ getBits (t.reg (pkey p 8)) 0 1 = 1 ∧ t.noted (144 + p) ∧
      t.cnt64 (pkey p 0x30) = s.countAfter (pkey p 0x40) (pkey p 0x30) 1 ∧ getBits (t.reg 0x1C00044) (16 + p) 1 = 0 ∧
      getBits (t.reg (pkey p 4)) 4 2 = 0 ∧ s.regsBut t [pkey p 4, pkey p 8, 0x1C00044]) ∧
    (x.st ≠ .up → ∃ t, exec c s = .next t ∧ t = { s with regs := t.regs } ∧ ∀ k, t.reg k = s.reg k)) ∧
  (∀ size : BitVec 2,
    (p % 4 + size.toNat < 4 → s.lashOk p size.toNat = true → ∃ t, exec (.lashWrite p size) s = .next t ∧
      t = { s with regs := t.regs } ∧ t.reg (pkey p 0) = putBits (s.reg (pkey p 0)) 4 2 size.toNat ∧
      ∀ k, k ≠ pkey p 0 → t.reg k = s.reg k) ∧
    (p % 4 + size.toNat < 4 → s.lashOk p size.toNat = false → ∃ t, exec (.lashWrite p size) s = .next t ∧
      t = { s with regs := t.regs, out := t.out } ∧ getBits (t.reg (pkey p 8)) 4 1 = 1 ∧ t.noted (144 + p) ∧
      s.regsBut t [pkey p 8]) ∧
    (4 ≤ p % 4 + size.toNat → ∃ t, exec (.lashWrite p size) s = .next t ∧
      t = { s with regs := t.regs, c64 := t.c64, out := t.out } ∧ getBits (t.reg 0x404) 3 1 = 1 ∧
      ∀ k, errKey k = false → t.reg k = s.reg k))

/-- Training (R217, R220 to R222, R225, R237, R244, R345): DETECT, SEED, EQ and ALIGN follow one another, SEED and RECOVERY loading
the seeds, the default preset where they are bad, or the learned values; ALIGN and RECOVERY end in UP with full credits on 8 lanes, or
on 4 where X4 allows and no group is lashed, else in DEGRADED. Members of a lashed group wait in ALIGN until none of them still trains
and end it together. A state that takes too long is a TRAIN_FAIL and trains from the seeds, RECOVERY after its third attempt. -/
def Obligations.PortTraining : Prop := ∀ (p : Nat) (s : State), p < 16 →
  let x := s.port p
  let event := fun (t : State) (b : Nat) => getBits (t.reg (pkey p 8)) b 1 = 1 ∧ t.noted (144 + p)
  let others := s.portGroup p
  let start := (List.range 8).map (fun i => if x.fromSeeds then s.seedOf p i else s.reg (pkey p (0x100 + 4 * i)))
  (∀ i, s.calBad 3 = true → s.seedOf p i = Config.defaultPreset i &&& 0xFFFFFFF) ∧
  (∀ lanes : BitVec 8, s.training p .detect = true →
    4 ≤ ((List.range 8).filter (fun i => lanes.getLsbD i)).length →
    exec (.partnerDetect p lanes) s = .next (s.setPort p { x with st := .seed })) ∧
  (s.training p .seed = true → ∃ t, exec (.seedDone p) s = .next t ∧ t = { s with ports := t.ports } ∧
    t.port p = { x with st := .eq, startEq := start } ∧ (∀ p', p' ≠ p → t.port p' = s.port p')) ∧
  (∀ learned, s.training p .eq = true → ∃ t, exec (.eqConverged p learned) s = .next t ∧
    t = { s with regs := t.regs, ports := t.ports } ∧ t.port p = { x with st := .align, fromSeeds := false } ∧
    (∀ p', p' ≠ p → t.port p' = s.port p') ∧
    (∀ i, i < 8 → t.reg (pkey p (0x100 + 4 * i)) = w32 (getBits ((learned.drop i).headD 0) 0 28)) ∧
    ∀ k, (∀ i, i < 8 → k ≠ pkey p (0x100 + 4 * i)) → t.reg k = s.reg k) ∧
  (∀ (r : Trained) (c : Instr), x.flits = [] → x.retry = [] → x.egress = [] →
    (c = .alignDone p r ∧ s.training p .align = true ∧
      ∀ m ∈ others, m ≠ p → s.stillTrains m = false ∧ (s.port m).trained = none) ∨ (c = .recoveryDone p r ∧ x.st = .recovery) →
    let lo : Bool := decide (fld r.lanes.toNat 0 4 = 15)
    let hi : Bool := decide (fld r.lanes.toNat 4 4 = 15)
    let x4 := r.lanes ≠ 0xFF ∧ (lo = true ∨ hi = true) ∧ getBits (s.reg (pkey p 0)) 1 1 = 1 ∧ s.lashed p = false
    let up : Port := { x with st := .up, attempts := 0, credits := fullCredits, owed := [], upAt := s.now, trained := none,
                              startEq := if x.st = .recovery then start else x.startEq }
    ∃ t, exec c s = .next t ∧ t = { s with regs := t.regs, ports := t.ports, out := t.out } ∧
      (∀ p', p' ≠ p → t.port p' = s.port p') ∧ getBits (t.reg (pkey p 4)) 16 8 = r.pol.toNat ∧
      s.regsBut t [pkey p 4, pkey p 8] ∧
      (r.lanes = 0xFF → s.lashed p = false ∨ r.skew ≤ 16 →
        t.port p = up ∧ t.reg (pkey p 8) = s.reg (pkey p 8) ∧ getBits (t.reg (pkey p 4)) 4 3 = 4 * bit r.reversed) ∧
      (r.lanes = 0xFF → s.lashed p = true → 16 < r.skew → (t.port p).st = .degraded ∧ event t 3) ∧
      (x4 → t.port p = up ∧ event t 2 ∧ getBits (t.reg (pkey p 4)) 4 3 = 1 + 2 * bit (!lo) + 4 * bit r.reversed) ∧
      (r.lanes ≠ 0xFF → ¬ x4 → (t.port p).st = .degraded ∧ event t 2)) ∧
  (∀ r, s.training p .align = true → (∃ m ∈ others, m ≠ p ∧ s.stillTrains m = true) →
    exec (.alignDone p r) s = .next (s.setPort p { x with trained := some r })) ∧
  (s.training p .seed = true ∨ s.training p .eq = true ∨ s.training p .align = true →
    (∀ m ∈ others, m ≠ p → (s.port m).trained = none) ∨ (∃ m ∈ others, m ≠ p ∧ s.stillTrains m = true) →
    ∃ t, exec (.trainStateTimeout p) s = .next t ∧ t = { s with regs := t.regs, ports := t.ports, out := t.out } ∧
      t.port p = { x with failed := true, trained := none } ∧ (∀ p', p' ≠ p → t.port p' = s.port p') ∧ event t 1 ∧
      s.regsBut t [pkey p 8]) ∧
  (∀ (c : Instr) (r : Trained) (m : Nat), (c = .alignDone p r ∧ s.training p .align = true) ∨
      (c = .trainStateTimeout p ∧ (s.training p .seed = true ∨ s.training p .eq = true ∨ s.training p .align = true)) →
    m ∈ others → m ≠ p → (s.port m).trained.isSome = true → (∀ n ∈ others, n ≠ p → s.stillTrains n = false) →
    ∃ t, exec c s = .next t ∧ (t.port m).trained = none ∧ ((t.port m).st = .up ∨ (t.port m).st = .degraded)) ∧
  (x.failed = true →
    exec (.detectRetry p) s = .next (s.setPort p { x with st := .detect, failed := false, fromSeeds := true })) ∧
  (x.st = .recovery → x.attempts < 2 →
    exec (.recoveryAttemptFail p) s = .next (s.setPort p { x with attempts := x.attempts + 1 })) ∧
  (x.st = .recovery → 2 ≤ x.attempts → x.retry = [] → x.egress = [] →
    ∃ t, exec (.recoveryAttemptFail p) s = .next t ∧ t = { s with regs := t.regs, ports := t.ports, out := t.out } ∧
      (t.port p).st = .detect ∧ (t.port p).fromSeeds = true ∧ (∀ p', p' ≠ p → t.port p' = s.port p') ∧ event t 1 ∧
      s.regsBut t [pkey p 8])

/-- FLIT_RX, sync frames, notices and bursts (R192, R193, R223, R234, R243 to R245, R248, R259, R324; entry 15 for the numbering): a
flit that passes FCRC in its place is acknowledged and its packets are framed; one that does not pass asks for retransmission by a
flit with NAK in the service regime, and is discarded with the packet it is part of in the end-to-end regime; more than 64
uncorrectable codewords within 10 µs drop the port; in low-power idle no packet byte passes. A beacon shows the partner's LPI flag and
lets a waiting WAKE frame leave; a notice in time is held, chart or none, and passed on to every other link where it is the largest,
a late one is LATE; a port in low-power idle sends its burst. -/
def Obligations.LinkReceives : Prop :=
  (∀ (p : Nat) (s : State), p < 16 → (s.port p).st = .up →
    let x := s.port p
    (∀ flit nc nu,
      let c := leAt flit 242 14
      let framed := frameFlit x.rxPart (flit.take 242) (fld c 28 8)
      let passes := fld c 80 32 = (crc32c (flit.take 252)).toNat
      let seen := if nu = 0 then x.badSeen
        else x.badSeen.filter (fun b => decide (s.now.toNat < b.1.toNat + 10000)) ++ [(s.now, nu)]
      let y := { x with badSeen := seen }
      let sum := (seen.map (·.2)).sum
      ∃ t, exec (.flitRx p flit nc nu) s = .next t ∧ (∀ p', p' ≠ p → t.port p' = s.port p') ∧
        t.cnt64 (pkey p 0x10) = s.countAfter (pkey p 0x40) (pkey p 0x10) nc ∧
        t.cnt64 (pkey p 0x18) = s.countAfter (pkey p 0x40) (pkey p 0x18) nu ∧
        (64 < sum → (t.port p).st = .recovery ∧ getBits (t.reg (pkey p 8)) 0 1 = 1 ∧ t.noted (144 + p) ∧
          t.cnt64 (pkey p 0x30) = s.countAfter (pkey p 0x40) (pkey p 0x30) 1) ∧
        (sum ≤ 64 → x.lpi = true → t = { s with c64 := t.c64, ports := t.ports } ∧ t.port p = y) ∧
        (sum ≤ 64 → x.lpi = false → s.e2eMode = true → ¬ passes →
          t = { s with c64 := t.c64, ports := t.ports } ∧ t.port p = { y with rxPart := [] }) ∧
        (sum ≤ 64 → x.lpi = false → s.e2eMode = false → ¬ passes →
          let z := { y with discarding := true, nakDue := true }
          t = { s with c64 := t.c64, ports := t.ports, out := t.out } ∧ t.port p = z.sent false ∧
          t.out = s.out ++ [.flit p (z.nextFlit.bytes x.rxSeq true false (creditPair x.owed))]) ∧
        (sum ≤ 64 → x.lpi = false → s.e2eMode = false → x.discarding = false → passes → fld c 24 4 = 0 →
          fld c 0 12 = (x.rxSeq + 1).toNat → x.egress = [] →
          t = { s with c64 := t.c64, ports := t.ports } ∧ (t.port p).rxSeq = x.rxSeq + 1 ∧
          (t.port p).acked = BitVec.ofNat 12 (fld c 12 12) ∧ (t.port p).ackDue = true ∧
          (t.port p).retry = x.retry.filter (fun r => decide (2048 ≤ (BitVec.ofNat 12 (fld c 12 12) - r.1).toNat)) ∧
          (t.port p).flits = x.flits.filter (fun f => decide (2048 ≤ (BitVec.ofNat 12 (fld c 12 12) - f.seq).toNat)) ∧
          (t.port p).rxPkts = x.rxPkts ++ framed.1 ∧ (t.port p).rxPart = framed.2 ∧ (t.port p).st = .up)) ∧
    (∀ lpi : Bool, lpi = false ∨ x.wakeDue = [] → ∃ t, exec (.lpiBeaconRx p lpi) s = .next t ∧ t = { s with regs := t.regs } ∧
      getBits (t.reg (pkey p 4)) 12 1 = bit lpi ∧ ∀ k, k ≠ pkey p 4 → t.reg k = s.reg k) ∧
    (∀ w, x.wakeDue = [w] → s.fabric.gathers = [] → ∃ t, exec (.lpiBeaconRx p true) s = .next t ∧
      t = { s with regs := t.regs, ports := t.ports, fabric := t.fabric, out := t.out } ∧
      t.out = s.out ++ [.wakeFrame p x.lpi] ∧ t.port p = { x with wakeDue := [] } ∧ getBits (t.reg (pkey p 4)) 12 1 = 1 ∧
      t.fabric.gathers = [{ eid := w.1, sunit := w.2.1, tags := [w.2.2], since := s.now, start := atPort p }])) ∧
  (∀ (p : Nat) (s : State), (s.port p).st = .up →
    (∀ b e stamp clamp,
      let late := s.chartRuns = true ∧ (b.toNat ≤ s.tideIdx.toNat ∨ (b = s.tideIdx + 1 ∧ s.tide.applied = true))
      let from' := (List.range 16).find? (fun l => s.leads l && (s.members l).contains p)
      ∃ t, exec (.extensionNoticeRx p b e stamp clamp) s = .next t ∧
        (¬ late → t = { s with tide := t.tide, out := t.out } ∧
          t.tide = { s.tide with exts :=
            s.tide.exts ++ [{ boundary := b, e := e, remote := true, port := p, clamp := clamp }] } ∧
          ((∃ x, s.largestExt b = some x ∧ e ≤ x.e) → t.out = s.out) ∧
          ((∀ x, s.largestExt b = some x → x.e < e) → t.out = s.out ++
            (s.linksUp.filter (fun l => decide (from' ≠ some l))).map (fun l => Out.notice l b e (s.linkIdle l)))) ∧
        (late → t.tide = s.tide ∧ getBits (t.reg (kChart 4)) 13 1 = 1 ∧ t.noted 160 ∧ s.regsBut t [kChart 4])) ∧
    ((s.port p).lpi = true → (s.tbRole ≠ 2 ∨ (s.upMembers s.uplink).head? ≠ some p →
        exec (.lpiBurst p) s = .next { s with out := s.out ++ [.beacon p true] }) ∧
      (s.tbRole = 2 → (s.upMembers s.uplink).head? = some p → s.time.t1 = none →
        exec (.lpiBurst p) s = .next { s with out := s.out ++ [.syncReq p (s.fineNow + s.asym p) true],
                                              time := { s.time with t1 := some (s.fineNow + s.asym p) } })))

/-- The time base (R229 to R233, R238, R324; entries 3 and 22 for the stamps): loads, roles, the edges of sync-in and sync-out, an
exchange from either side, its stamps with TB_ASYM, with what its answer does to the time, the fourth void exchange in a row, and the
beginning and the end of HOLDOVER. -/
def Obligations.TimeBase : Prop := ∀ (s : State),
  let ev := fun (t : State) (b : Nat) => getBits (t.reg (kTb 0xC)) b 1 = 1 ∧ t.noted 166
  (pulseOk (getBits (s.reg (kTb 8)) 13 5) = true →
    (s.tbRole = 1 → getBits (s.reg (kTb 8)) 2 1 = 0 → ∃ t, exec .tbLoad s = .next t ∧
      t = { s with regs := t.regs, c64 := t.c64, time := { s.time with aclk := t.time.aclk } } ∧
      (∀ k, t.reg k = s.reg k) ∧ t.now = s.pair (kTb 0x10) ∧
      ∀ k, k ≠ kTbNow → t.cnt64 k = s.cnt64 k) ∧
    (s.tbRole = 2 → ∃ t, exec .tbLoad s = .next t ∧ t = { s with regs := t.regs, out := t.out } ∧ ev t 6 ∧
      s.regsBut t [kTb 0xC]) ∧
    (∀ role : BitVec 2, role ≠ 3 → ∃ t, exec (.tbRoleWrite role) s = .next t ∧
      t = { s with regs := t.regs, time := t.time } ∧ t.tbRole = role.toNat ∧
      t.tbState = (if role = 0 then 0 else 3 - role.toNat) ∧ ∀ k, k ≠ kTb 8 → k ≠ kTb 0xC → t.reg k = s.reg k) ∧
    (∃ t, exec (.tbRoleWrite 3) s = .next t ∧ t = { s with regs := t.regs, c64 := t.c64, out := t.out } ∧
      getBits (t.reg 0x404) 3 1 = 1 ∧ ∀ k, errKey k = false → t.reg k = s.reg k)) ∧
  (s.tbRole = 1 → getBits (s.reg (kTb 8)) 2 1 = 1 →
    exec .syncInEdge s = .next { s with time := { s.time with loadAt := some (s.now + 32) } }) ∧
  (s.tbRole = 1 →
    let n := getBits (s.reg (kTb 8)) 13 5
    let next := (s.now.toNat / 2 ^ n + 1) * 2 ^ n
    n ≠ 0 → next < 2 ^ 64 → s.time.loadAt = none → ∃ t, exec .syncOutPulse s = .next t ∧
      t = { s.passTo (w64 next) with out := t.out } ∧ t.out = s.out ++ [.syncOut] ∧
      (s.shadowed = false → t.now = w64 next)) ∧
  (∀ frac p rest, s.tbRole = 2 → s.time.t1 = none → s.upMembers s.uplink = p :: rest →
    let t1 := s.fineNow + (frac % 16 : Nat) + s.asym p
    exec (.syncExchange frac) s =
      .next { s with out := s.out ++ [.syncReq p t1 (s.port p).lpi], time := { s.time with t1 := some t1 } }) ∧
  (∀ p, (s.port p).st = .up → ∃ t t2 t3, exec (.syncReqRx p) s = .next t ∧
    t = { s with out := s.out ++ [.syncRsp p t2 t3 (s.tbRole != 1 && s.tbState != 2) (s.port p).lpi], free := t.free } ∧
    s.fineNow + s.asym p ≤ t2 ∧ t2 < s.fineNow + s.asym p + 16 ∧ t2 ≤ t3) ∧
  (∀ p t1 t2 t3 t4, s.tbRole = 2 → (s.upMembers s.uplink).head? = some p → s.time.t1 = some t1 →
    let o := ((t2 - t1) - (t4 + s.asym p - t3)) / 2
    let d := ((t4 + s.asym p - t1) - (t3 - t2)) / 2
    ∃ t, exec (.syncRspRx p false t2 t3 t4) s = .next t ∧ t.reg (kTb 0x18) = w32 (wrap o 32) ∧
      t.reg (kTb 0x1C) = w32 (wrap d 32) ∧ t.time.t1 = none ∧ t.time.void = 0 ∧ t.stack = s.stack ∧
      (s.tbState = 2 → o.natAbs ≤ 128 → t.time.slew = o ∧ t.now = s.now ∧ t.tbState = 2) ∧
      (s.tbState ≠ 1 → s.time.holdSince ≠ none → o.natAbs ≤ 128 → t.tbState = 2 ∧ t.time.holdSince = none) ∧
      (s.tbState = 2 → 128 < o.natAbs → ev t 4 ∧ t.tbState = 4 ∧ t.now = s.now) ∧
      (s.tbState = 1 → s.chartHolds = false →
        ev t 5 ∧ t.now = w64 (wrap ((s.now.toNat : Int) + (o + 8) / 16) 64) ∧ getBits (t.reg 0x1C00044) 0 1 = 0)) ∧
  (∀ p t1 t2 t3 t4, s.tbRole = 2 → (s.upMembers s.uplink).head? = some p → s.time.t1 = some t1 →
    let other := getBits (s.reg (kTb 0xC)) 3 1 = 0 ∧ getBits (s.reg (kTb 8)) 8 1 = 1 ∧ s.linkUp (getBits (s.reg (kTb 8)) 9 4) = true
    ∃ t, exec (.syncRspRx p true t2 t3 t4) s = .next t ∧ ev t 7 ∧ t.now = s.now ∧ t.time.good = 0 ∧
      (s.time.void = 3 → other → getBits (t.reg (kTb 0xC)) 3 1 = 1 ∧ t.time.void = 0 ∧ t.tbState = s.tbState) ∧
      (s.time.void = 3 → ¬ other → t.tbState = 3 ∧ (s.tbState ≠ 3 → t.time.holdSince = some s.now)) ∧
      (s.time.void < 3 → t.tbState = s.tbState)) ∧
  (∀ h, s.tbState = 3 → s.time.holdSince = some h →
    let u := s.passTo (h + 1000000000)
    ∃ t, exec .holdoverTimeout s = .next t ∧ t.tbState = 4 ∧ ev t 4 ∧ t.now = u.now ∧ u.regsBut t [kTb 0xC])

/-! ### Packets (R239 to R265) -/

/-- WRITE, READ_REQ, QUENCH, UNQUENCH, WAKE and Yeweric packets at their destination, and a packet passed on (R247, R248,
R250, R252, R254, R257, R259, R260): a WRITE to the stack stores its payload, counts in RCNT and is acknowledged, a duplicate
only acknowledged; a READ_REQ is answered from the addressed bytes, and in the end-to-end regime a copy of the answer is kept; a
QUENCH closes and an UNQUENCH opens the VCs it names; a WAKE in A0 or A1 is logged as IGNORED; a packet for another module leaves
by the primary link that is UP, but for a WAKE toward a sleeping partner, which waits for its burst; a closed VC holds a packet. -/
def Obligations.PacketsArrive : Prop := ∀ (src : Ingress) (k k' : Packet) (s : State),
  let s1 := s.taken src k
  (k.typ = 1 → s.delivers src k k' 0 → stackCase s k' (64 * k'.plen.toNat) = none → s.stack.ecc = [] → s.ackRoom k' →
    (s.isDup k' = false → ∃ t, exec (.writeRx src k) s = .next t ∧
      t = { s with regs := t.regs, ports := s1.ports, fabric := t.fabric, stack := { s.stack with mem := t.stack.mem } } ∧
      t.stack.mem = s.stack.mem.write (packetAt k') k'.body ∧
      (∀ a, ¬ (packetAt k' ≤ a ∧ a < packetAt k' + 64 * k'.plen.toNat) → t.stack.mem.get a = s.stack.mem.get a) ∧
      t.reg (kCnt (saQuay (packetAt k')) k'.rcnt.toNat) = s.reg (kCnt (saQuay (packetAt k')) k'.rcnt.toNat) + 1 ∧
      (∀ x, x ≠ kCnt (saQuay (packetAt k')) k'.rcnt.toNat → t.reg x = s.reg x) ∧
      (∃ e ∈ t.fabric.windows, e.of k' = true ∧ e.tag = k'.tag ∧ e.time = s.now) ∧
      ∃ g ∈ t.fabric.gathers, g.eid = k'.src ∧ g.sunit = k'.sunit ∧ k'.tag ∈ g.tags) ∧
    (s.isDup k' = true → ∃ t, exec (.writeRx src k) s = .next t ∧
      t = { s with c64 := t.c64, ports := s1.ports, fabric := t.fabric } ∧
      t.cnt64 (kFab 0x60) = s.countAfter (kFab 0x70) (kFab 0x60) 1 ∧
      ∃ g ∈ t.fabric.gathers, g.eid = k'.src ∧ g.sunit = k'.sunit ∧ k'.tag ∈ g.tags)) ∧
  (k.typ = 2 → s.delivers src k k' 0 → stackCase s k' (64 * (k'.arg.toNat + 1)) = none → s.stack.ecc = [] →
    let r := newPacket s1 3 ((k'.vc.toNat + 2) % 4) k'.src k'.sunit.toNat 0 k'.arg.toNat k'.tag 0
      (s.stack.mem.read (packetAt k') (64 * (k'.arg.toNat + 1)))
    let o : OutPkt := { send := 0, pkt := r, acks := 0, resends := 0, lastSent := s.now, start := k'.position 0 }
    exec (.readReqRx src k) s = .next (originate (k'.position 0) r
      (if s.e2eMode then { s1 with fabric := { s1.fabric with copies := s.fabric.copies ++ [o] } } else s1))) ∧
  (∀ u, s.delivers src k k' u → s.ackRoom k' → s.isDup k' = false → (∀ p, (s.port p).held = []) →
    let shut := fun (t : State) (p v : Nat) => getBits (t.reg (kFab (0x20 + 4 * (p / 4)))) (4 * (p % 4) + v) 1
    let named := fun (p v : Nat) => bitAt (fld k'.raddr.toNat 0 16) p && bitAt (fld k'.raddr.toNat 16 4) v
    (k.typ = 6 → ∃ t, exec (.quenchRx src k) s = .next t ∧
      (∀ p v, p < 16 → v < 4 → shut t p v = if named p v then 1 else shut s p v) ∧ t.stack = s.stack ∧ t.quays = s.quays) ∧
    (k.typ = 7 → ∃ t, exec (.unquenchRx src k) s = .next t ∧
      (∀ p v, p < 16 → v < 4 → shut t p v = if named p v then 0 else shut s p v) ∧ t.stack = s.stack ∧
      t.quays = s.quays)) ∧
  (∀ u, s.delivers src k k' u → s.ackRoom k' → k.typ = 8 → k.arg = 1 → s.power.st = .a0 ∨ s.power.st = .a1 →
    s.wakeLog.length < 16 → ∃ t, exec (.ctrlWakeRx src k) s = .next t ∧ t.power = s.power ∧
      (∃ e, t.wakeLog = s.wakeLog ++ [e] ∧ e.ts = s.now ∧
        e.w2 = w32 (2 ^ 31 + 3 * 2 ^ 28 + pwrCode s.power.st * 16 + 5)) ∧ t.noted 165 ∧ s.regsBut t []) ∧
  (s.delivers src k k' 1 → k.typ = 8 → 128 ≤ k.arg.toNat →
    exec (.yewericMessageRx src k) s = .next (yewericMessage k' (s1.emit (.yeweric k')))) ∧
  (s.admits src k → k' = popLocal 4 s k → s.fabric.adaptMesh = false → s.fabric.adaptFabric = false → k'.hops ≠ 0 →
    (src = .mesh → k ∉ s.fabric.mesh) →
    let p := (s.route k'.routingEid).primary
    (s.route k'.routingEid).kind = 1 → s.linkUp p = true → s.reachesPort (ingressAt src k) p = true →
    let sleeper := k'.typ = 8 ∧ k'.arg = 1 ∧ s.linkSleeps p = true
    (¬ sleeper → exec (.packetForward src k) s = .next (portSend p (leaving k' false none) s1)) ∧
    (sleeper → exec (.packetForward src k) s = .next (absorbWake p k' s1))) ∧
  (∀ p, src = .port p → (s.port p).st = .up → s.vcClosed p k.vc = true → exec (.packetForward src k) s = .next (s.setPort p
    { s.port p with rxPkts := (s.port p).rxPkts.erase k.bytes, held := (s.port p).held ++ [k] })) ∧
  (∀ p, src = .port p → (s.port p).st = .up → s.vcClosed p k.vc = false → k.crcBad = true →
    ∃ t, exec (.packetForward src k) s = .next t ∧
      t = { s with regs := t.regs, c64 := t.c64, ports := s1.ports } ∧
      t.cnt64 (kFab 0x38) = s.countAfter (kFab 0x70) (kFab 0x38) 1 ∧ t.reg (kFab 4) = s.reg (kFab 4) ||| 1 ∧
      (∀ x, x ≠ kFab 4 → t.reg x = s.reg x))

/-- Answers and timed events at the source (R149, R164, R253 to R255, R259, R260, R262, R264): an ACK completes a packet, and a
SEND of the gantry that waits for a place goes on; a READ_RSP stores its data and completes, a NACK and the completion timeout
complete it LOST; a gathered ACK leaves, a copy goes out again, one stranded packet is dropped and logged, and QUENCH_k is
stored by the MASK form. -/
def Obligations.PacketsComplete : Prop := ∀ (src : Ingress) (k k' : Packet) (s : State),
  let waits := fun (s : State) (q : Nat) (tag : W32) =>
    (s.quay q).sends.find? (fun (w : SendJob) => w.gantry = fld tag.toNat 31 1 && !w.todo.isEmpty)
  (∀ u q o j w, s.delivers src k k' u → q = k'.sunit.toNat → q < 144 → s.discards q = false →
    s.findOut q k'.tag = some o → (s.quay q).sends.find? (fun j => j.id = o.send) = some j → j.todo = [] → j.lcnt < 16 →
    k.typ = 4 → k'.arg = 1 → o.pkt.typ ≠ 2 → o.acks ≤ 1 → waits s q k'.tag = some w → w.id ≠ j.id → w.todo.length = 1 →
    (s.quay q).sends.find? (fun v => v.id = w.id) = some w → ((s.quay q).outs (fld k'.tag.toNat 31 1)).length ≤ 256 →
    ∃ t, exec (.ackRx src k) s = .next t ∧ { w with todo := [] } ∈ (t.quay q).sends) ∧
  (∀ u q o j, s.delivers src k k' u → q = k'.sunit.toNat → q < 144 → s.discards q = false →
    s.findOut q k'.tag = some o → (s.quay q).sends.find? (fun j => j.id = o.send) = some j → j.todo = [] → j.lcnt < 16 →
    waits s q k'.tag = none →
    (k.typ = 4 → k'.arg = 1 → o.pkt.typ ≠ 2 → o.acks ≤ 1 → ∃ t, exec (.ackRx src k) s = .next t ∧
      s.completes t q o j false ∧ t.stack = s.stack) ∧
    (k.typ = 3 → o.pkt.typ = 2 → k'.plen.toNat = k'.arg.toNat + 1 → s.stack.ecc = [] →
      let a := 64 * j.lbase + 4096 * ((k'.tag.toNat + 2 ^ 31 - j.tagBase.toNat % 2 ^ 31) % 2 ^ 31)
      ∃ t, exec (.readRspRx src k) s = .next t ∧ s.completes t q o j false ∧
        t.stack = { s.stack with mem := s.stack.mem.write (stackAddr q 0 a) (k'.body.take (0x60000 - a)) }) ∧
    (k.typ = 5 → k'.arg ≠ 0x4F → ∃ t, exec (.nackRx src k) s = .next t ∧ s.completes t q o j true ∧
      t.cnt64 (kFab 0x48) = s.countAfter (kFab 0x70) (kFab 0x48) 1 ∧
      t.cnt64 (kFab 0x50) = s.countAfter (kFab 0x70) (kFab 0x50) 1 ∧ getBits (t.reg (kFab 4)) 1 1 = 1 ∧
      t.stack = s.stack)) ∧
  (∀ q tag o j, q < 144 → s.findOut q tag = some o →
    let u := s.passTo (o.pkt.ts + w64 s.cto)
    u.discards q = false → (u.quay q).sends.find? (fun j => j.id = o.send) = some j → j.todo = [] → j.lcnt < 16 →
    waits u q tag = none →
    ∃ t, exec (.completionTimeout q tag) s = .next t ∧ u.completes t q o j true ∧
      t.cnt64 (kFab 0x50) = u.countAfter (kFab 0x70) (kFab 0x50) 1 ∧ t.stack = u.stack) ∧
  (∀ eid sunit g, s.fabric.gathers.find? (fun g => g.eid = eid && g.sunit = sunit) = some g →
    let s' := s.passTo (g.since + 32)
    exec (.ackGatherEnd eid sunit) s = .next (sendAck g { s' with fabric := { s'.fabric with
      gathers := s.fabric.gathers.filter (fun h => !(h.eid = eid && h.sunit = sunit)) } })) ∧
  (∀ unit tag o, s.findOut unit tag = some o → s.mayResend o = true →
    let s' := s.passTo (o.lastSent + w64 (s.cto / 4))
    exec (.e2eResend unit tag) s = .next (originate o.start o.pkt
      (putOut unit { o with resends := o.resends + 1, lastSent := s'.now } s'))) ∧
  (∀ unit tag o, s.findOut unit tag = none → s.findCopy unit tag = some o → s.mayResend o = true →
    let s' := s.passTo (o.lastSent + w64 (s.cto / 4))
    let put := fun (x : OutPkt) => if x = o then { o with resends := o.resends + 1, lastSent := s'.now } else x
    exec (.e2eResend unit tag) s = .next (originate o.start o.pkt
      { s' with fabric := { s'.fabric with copies := s'.fabric.copies.map put } })) ∧
  (∀ p tag x, p < 16 → (s.port p).oldest tag = some x →
    let u := s.passTo (x.ts + w64 (s.cto + 1))
    let y := u.port p
    y.oldest tag = some x →
    ∃ t, exec (.stranded p tag) s = .next t ∧ t.cnt64 (kFab 0x68) = u.countAfter (kFab 0x70) (kFab 0x68) 1 ∧
      getBits (t.reg (kFab 4)) 3 1 = 1 ∧ (∀ p', p' ≠ p → t.port p' = u.port p') ∧ t.stack = u.stack ∧ u.regsBut t [kFab 4] ∧
      (u.fabLog.length < 16 → ∃ e, t.fabLog = u.fabLog ++ [e] ∧ e.ts = u.now ∧ e.w3 = tag ∧
        getBits e.w2 16 8 = 0x53 ∧ getBits e.w2 0 16 = x.src.toNat) ∧
      (∀ r, y.retry.find? (fun r => r.2 = x) = some r → t.port p = { y with retry := y.retry.erase r }) ∧
      (y.retry.find? (fun r => r.2 = x) = none → x ∈ y.egress → t.port p = { y with egress := y.egress.erase x }) ∧
      (y.retry.find? (fun r => r.2 = x) = none → x ∉ y.egress → t.port p = { y with
        held := y.held.erase x, owed := tabSet y.owed x.vc.toNat (tabGet y.owed x.vc.toNat 0 + x.need) })) ∧
  (∀ i (d : W32), i < 4 → (∀ p, (s.port p).held = []) →
    let f : W32 × W32 := (d &&& 0xFFFF, d >>> 16)
    ∃ t, exec (.quenchRegWrite i d) s = .next t ∧
      t.reg (kFab (0x20 + 4 * i)) = w32 (getBits (mergeBits (s.reg (kFab (0x20 + 4 * i))) f) 0 16) ∧
      (∀ x, x ≠ kFab (0x20 + 4 * i) → t.reg x = s.reg x) ∧ t = { s with regs := t.regs, ports := t.ports } ∧
      ∀ p, t.port p = s.port p)

/-! ### Mailbox and serving (R266 to R301, R341, R359 to R366) -/

/-- Writes of the mailbox, mirroring and lifeboat registers (R278, R284, R286, R360, R364, R366): what each stores, and
SQ_ERR, CFG_REJ or nothing where it is not accepted. -/
def Obligations.MailboxRegisters : Prop := ∀ (s : State),
  let f := fun (d : W32) => writeForm (s.maskMode 8) false d
  let only := fun (t : State) (k : Nat) => t = { s with regs := t.regs } ∧ ∀ k', k' ≠ k → t.reg k' = s.reg k'
  let en := getBits (s.reg (kMb 0)) 0 1
  (∀ ring d, ring < 2 →
    let k := kMb (sqHead ring - 4)
    let v := getBits (mergeBits (s.reg k) (f d)) 0 16
    let n := (v + 65536 - s.ringCount (sqHead ring)) % 65536
    (n ≤ sqSize ring → ∃ t, exec (.sqTailWrite ring d) s = .next t ∧ only t k ∧ getBits (t.reg k) 0 16 = v) ∧
    (sqSize ring < n → ∃ t, exec (.sqTailWrite ring d) s = .next t ∧ t = { s with regs := t.regs, out := t.out } ∧
      getBits (t.reg (kMb 4)) 2 1 = 1 ∧ t.noted 173 ∧ s.regsBut t [kMb 4])) ∧
  (∀ d, s.serve.cq = [] → ∃ t, exec (.cqHeadWrite d) s = .next t ∧ only t (kMb 0x20) ∧
    t.ringCount 0x20 = getBits (mergeBits (s.reg (kMb 0x20)) (f d)) 0 16) ∧
  (∃ t, exec .mbReset s = .next t ∧
    (en = 0 → ∃ u, t = u.cqFlush ∧ u = { s with regs := u.regs, serve := { s.serve with voids := [] } } ∧
      (s.serve.cq = [] → t = u) ∧ (∀ i, i < 6 → u.ringCount (0x10 + 4 * i) = 0) ∧
      ∀ k, (∀ i, i < 6 → k ≠ kMb (0x10 + 4 * i)) → u.reg k = s.reg k) ∧
    (en = 1 → only t (kMb 4) ∧ t.reg (kMb 4) = s.reg (kMb 4) ||| 0x10)) ∧
  (∀ b : Bool, ∃ t, exec (.mbEnWrite b) s = .next t ∧ only t (kMb 0) ∧ t.reg (kMb 0) = putBits (s.reg (kMb 0)) 0 1 (bit b)) ∧
  (∀ (hi : Bool) d,
    let k := kMb (if hi then 0x2C else 0x28)
    ∃ t, exec (.cqHostWrite hi d) s = .next t ∧ (en = 0 → only t k ∧ t.reg k = d) ∧
      (en = 1 → only t (kMb 4) ∧ t.reg (kMb 4) = s.reg (kMb 4) ||| 0x10)) ∧
  (∀ d : W32, ∃ t, exec (.mirPartnerWrite d) s = .next t ∧ t = { s with regs := t.regs, serve := t.serve } ∧
    t.reg (kMb 0x40) = (s.reg (kMb 0x40) &&& 0x0000FFF0) ||| (d &&& 0xFFFF000F) ∧
    (∀ k, k ≠ kMb 0x40 → t.reg k = s.reg k) ∧ t.serve.mirLost = 0 ∧
    ∀ b, t.berth b = (s.berth b).map (fun x => { x with mpos := 0 })) ∧
  (∀ origin, ∃ t, exec (.mirDrop origin) s = .next t ∧
    t = { s with serve := { s.serve with mirrors := s.serve.mirrors.filter (fun m => m.origin != origin) },
                 stack := { s.stack with zero := s.stack.zero ++
                   ((s.serve.mirrors.filter (fun m => m.origin = origin)).map (·.cids)).flatten } }) ∧
  (s.noChart = true → ∃ t, exec .lbArm s = .next t ∧ t = { s with regs := t.regs, out := t.out } ∧
    getBits (t.reg (kMb 0x6C)) 0 8 = 1 ∧ getBits (t.reg (kMb 0x6C)) 16 13 = 0 ∧ t.noted 174 ∧ s.regsBut t [kMb 0x6C]) ∧
  (s.noChart = false → exec .lbArm s = .next s) ∧
  (getBits (s.reg (kMb 0x6C)) 0 4 = 1 → ∃ t, exec .lbDisarm s = .next t ∧ t = { s with regs := t.regs, out := t.out } ∧
    getBits (t.reg (kMb 0x6C)) 0 8 = 0 ∧ t.noted 174 ∧ s.regsBut t [kMb 0x6C])

/-- The mailbox commands (R268, R270, R279 to R285, R294 to R296, R299, R300): the entry is taken and carried out, and its
completion stands in the CQ at once, or for PARK, UNPARK and packets when its work ends, and then for what was taken on the same
berth after it; PARK of a DECODE berth waits for the step boundary; a CANCEL by the TAG of a SUBMIT that waits makes it void,
which then ends FINISHED. -/
def Obligations.MailboxCommands : Prop := ∀ (s : State) (ring : Nat) (e : List Byte),
  let named := fun (b : Nat) (x : Berth) => findBerth e s = .ok (b, x) ∧ s.berth b = some x
  let live := fun (b : Nat) (x : Berth) => named b x ∧ x.st ≠ .cancelling ∧ x.st ≠ .retiring
  let later := fun (x : Berth) (status b : Nat) =>
    { x with after := x.after ++ [cqDone (eId e) (BitVec.ofNat 8 (eOpc e)) ring status b x.tag (w32 x.generated)] }
  let stays := fun (t : State) => t.quays = s.quays ∧ t.stack = s.stack ∧ t.silo = s.silo ∧ t.power = s.power ∧ t.tide = s.tide
  (s.takes ring 0xA e → ∃ t, exec (.mbNop ring) s = .next t ∧ s.answers t ring e 0 0xFFFF 0 0 ∧
    t = { s with regs := t.regs, windows := t.windows, out := t.out }) ∧
  (∀ ok b x, s.takes ring 5 e → named b x → ∃ t, exec (.query ring ok) s = .next t ∧ s.tookEntry t ring ∧
    (ok = true → Out.hostWrite (w64 (eAddr e)) (statusRecord b x) ∈ t.out) ∧
    (x.cmd = none → s.answers t ring e (if ok then 0 else 0xD8) b x.tag (w32 x.generated) ∧
      t = { s with regs := t.regs, windows := t.windows, out := t.out }) ∧
    (x.cmd ≠ none → t.berth b = some (later x (if ok then 0 else 0xD8) b))) ∧
  (∀ b x, s.takes ring 6 e → live b x → ∃ t, exec (.setPrio ring) s = .next t ∧ s.tookEntry t ring ∧
    (x.cmd = none → s.answers t ring e 0 b x.tag (w32 x.generated) ∧ t.berth b = some { x with prio := eArg e }) ∧
    (x.cmd ≠ none → t.berth b = some (later { x with prio := eArg e } 0 b)) ∧
    (∀ b', b' ≠ b → t.berth b' = s.berth b') ∧ stays t) ∧
  (∀ close : Bool, s.takes ring (if close then 7 else 8) e → (∀ p, (s.port p).held = []) →
    let c := if close then Instr.mbQuench ring else .mbUnquench ring
    let shut := fun (t : State) (p v : Nat) => getBits (t.reg (kFab (0x20 + 4 * (p / 4)))) (4 * (p % 4) + v) 1
    ((s.route (BitVec.ofNat 16 (eAddr e))).kind = 2 → ∃ t, exec c s = .next t ∧ s.answers t ring e 0 0xFFFF 0 0 ∧ stays t ∧
      ∀ p v, p < 16 → v < 4 → shut t p v =
        if bitAt (fld (eArg e) 0 16) p && bitAt (fld (eArg e) 16 4) v then bit close else shut s p v) ∧
    ((s.route (BitVec.ofNat 16 (eAddr e))).kind ≠ 2 → ∃ t, exec c s = .next t ∧ s.tookEntry t ring ∧
      t.fabric.pilotSerial = s.fabric.pilotSerial + 1 ∧ ∃ w, t.serve.waits = s.serve.waits ++ [w] ∧ w.cmdId = eId e ∧
        w.tag = s.fabric.pilotSerial)) ∧
  (s.takes ring 0xB e → ∃ t, exec (.mbWake ring) s = .next t ∧ s.tookEntry t ring ∧
    t.fabric.pilotSerial = s.fabric.pilotSerial + 1 ∧ ∃ w, t.serve.waits = s.serve.waits ++ [w] ∧ w.cmdId = eId e ∧
      w.tag = s.fabric.pilotSerial) ∧
  (∀ waiting b x, s.takes ring 2 e → live b x →
    ∃ t, exec (.cancel ring waiting) s = .next t ∧ s.tookEntry t ring ∧
      (x.cmd = none → s.answers t ring e 0 b x.tag (w32 x.generated)) ∧
      (x.slot = none → x.st = .parked ∨ x.st = .queued → t.berth b = none) ∧
      (∀ n, x.slot = some n → t.berth b =
        some { x with st := .cancelling, reason := 5, cmd := none, after := [], adopting := none,
                      mpos := if x.st = .failed then 0 else x.mpos, releaseAt := some (s.tideIdx + 2) }) ∧
      ∀ b', b' ≠ b → t.berth b' = s.berth b') ∧
  (∀ waiting c n, s.takes ring 2 e → findBerth e s = .error c → eBerth e = 0xFFFF → s.waitingTag waiting (eTag e) = some n →
    ∃ t, exec (.cancel ring waiting) s = .next t ∧ s.answers t ring e 0 0xFFFF 0 0 ∧
      t.serve = { s.serve with voids := s.serve.voids ++ [(n, w64 (eTag e))] } ∧ stays t) ∧
  (∀ d p tag, ring = 0 → s.mayTake 0 = true → e = s.sqEntry 0 (s.ringCount 0x14) → eOpc e = 1 →
    s.voided (s.ringCount 0x14) = some tag → s.cqUsed + 1 < 1984 →
    let fin : CqEntry :=
      { cmdId := 0xFFFF, status := 0, kind := 2, berth := 0xFFFF, opc := 0, tag := tag, count := 0, detail := 5, urgent := false }
    ∃ t, exec (.submit ring d p) s = .next t ∧
      s.answers t ring e 0 0xFFFF 0 0 ∧ t.serve.voids = s.serve.voids.filter (fun v => v.1 != s.ringCount 0x14) ∧
      t.windows.read (0x1830000 + 32 * ((s.ringCount 0x24 + 1) % 65536 % 2048)) 32 =
        cqBytes ((s.ringCount 0x24 + 1) % 65536) s.now fin ∧ t.serve.berths = s.serve.berths ∧ stays t) ∧
  (∀ b x, s.takes ring 3 e → live b x → s.serve.manifest.isSome = true → s.chartRuns = true →
    x.st = .decode ∨ x.st = .ready → s.siloWritable = true →
    let need := ceilDiv (s.imageBytes x.pages.flatten.length) extentBytes
    need ≤ s.poolFree.length → ∃ t, exec (.park ring) s = .next t ∧ s.tookEntry t ring ∧
      (x.cmd = none → x.st = .ready → t.silo.pool = s.silo.pool ++ s.poolFree.take need ∧
        t.berth b = some { x with st := .parking, slot := none, cmd := some (eId e, ring), park := s.poolFree.take need,
                                  parked := x.nblk }) ∧
      (x.cmd = none → x.st = .decode → t.silo = s.silo ∧ t.berth b = some { x with cmd := some (eId e, ring) }) ∧
      (x.cmd ≠ none → t.silo = s.silo ∧ t.berth b = some (later x 0xD4 b)) ∧
      (∀ b', b' ≠ b → t.berth b' = s.berth b') ∧ t.stack = s.stack) ∧
  (∀ b x, s.takes ring 4 e → live b x → s.serve.manifest.isSome = true → s.chartRuns = true → x.st = .parked →
    ∃ t, exec (.unpark ring) s = .next t ∧ s.tookEntry t ring ∧
      (∃ y, t.berth b = some y ∧ y.st = .unparking ∧ y.cmd = some (eId e, ring) ∧ y.park = x.park) ∧
      ∀ b', b' ≠ b → t.berth b' = s.berth b') ∧
  (∀ m d p, s.takes ring 1 e → s.serve.voids = [] → s.serve.manifest = some m → s.chartRuns = true → descOk m d = true →
    s.servesTenant (leAt d 8 2) = true → p.length = 4 * leAt d 12 4 → s.freeIds ≠ [] →
    ∃ t b, exec (.submit ring (some d) (some p)) s = .next t ∧ b < 4096 ∧ s.berth b = none ∧
      t.berth b = some (newBerth d (tokensOf (leAt d 12 4) p) s) ∧ (∀ b', b' ≠ b → t.berth b' = s.berth b') ∧
      s.answers t ring e 0 b (w64 (leAt d 0 8)) 0 ∧ stays t) ∧
  (∀ bs, s.takes ring 9 e → s.chartRuns = true → s.manifestOk bs = true → s.serve.former = none → s.slotHeld = false →
    ∃ t, exec (.serveConfig ring (some bs)) s = .next t ∧ t.serve.manifest = some (parseManifest bs) ∧
      getBits (t.reg (kMb 4)) 1 1 = 1 ∧ s.answers t ring e 0 0xFFFF 0 0 ∧ t.serve.berths = s.serve.berths)

/-- Berths between commands (R266, R268, R269, R275, R277, R287, R299, R300, R340, R359 to R361, R376): the preparation window
moves to the next step and writes the row of an empty slot, and a DECODE berth that a PARK waits for leaves its slot there and
starts to park; a parked image is saved and its containers are listed for zeroing, an unparked one is loaded, both with the
energy of their transfer, a failed read ends in FAILED with the containers that remain readable, and mirroring and adoption ask
the partner and keep their counts. -/
def Obligations.BerthsMove : Prop := ∀ (s : State) (b : Nat),
  (∀ m c step tide failed, s.serve.manifest = some m → s.tide.chart = some c → s.chartRuns = true → s.yeweric = true →
    m.stepOf s.tideIdx.toNat = some (step, tide) → m.resultTide ≤ tide → s.serve.step ≠ step + 1 →
    let u := s.passTo (s.resultAt m c tide)
    ∃ t, exec (.prepWindow failed) s = .next t ∧ t.serve.step = step + 1 ∧ t.serve.manifest = some m ∧ t.ports = u.ports ∧
      t.tide = u.tide ∧
      (∀ x cmd, s.serve.berths = [(b, x)] → s.serve.rows = [] → x.st = .decode → x.position ≤ 64 * x.nblk → x.siloE = 0 →
        x.cmd = some cmd → s.siloWritable = true →
        let need := ceilDiv (s.imageBytes x.pages.flatten.length) extentBytes
        need ≤ s.poolFree.length → t.berth b = some { x with
          st := .parking, slot := none, since := u.now, held := 0, park := s.poolFree.take need, parked := x.nblk }) ∧
      (s.serve.berths = [] → m.stepAt (s.tideIdx.toNat + 1) ≠ some (step + 1) →
        (∀ slot, slot < m.nslot → t.stack.mem.read (m.stepRow ((step + 1) % 2) slot) 64 =
          leBytes 2 0 ++ leBytes 2 (step + 1) ++ List.replicate 60 0) ∧
        (∀ a, ¬ (m.stepRow ((step + 1) % 2) 0 ≤ a ∧ a < m.stepRow ((step + 1) % 2) m.nslot) →
          t.stack.mem.get a = u.stack.mem.get a))) ∧
  (∀ x counts, s.berth b = some x → x.st = .parking → s.siloJoins x = true →
    let live := x.containers.filter (fun c => s.enabled (cidQuay c))
    live ≠ [] → ∃ t, exec (.parkVerified ⟨b, counts⟩) s = .next t ∧
      t.silo.mem = (saveImage x.park x.pages.flatten 0 s).silo.mem ∧ t.stack.zero = s.stack.zero ++ live ∧
      t.power.siloSpent = s.power.siloSpent + s.eventEnergy counts ∧
      t.berth b = some { x with pages := [], spill := [], tree := [], zeroing := x.zeroing ++ live, releaseAt := none,
                                siloE := x.siloE + s.eventEnergy counts } ∧
      ∀ b', b' ≠ b → t.berth b' = s.berth b') ∧
  (∀ x m counts, s.berth b = some x → s.serve.manifest = some m → x.st = .unparking → x.pages ≠ [] →
    s.imageBad x.park = false → s.siloJoins x = true →
    ∃ t, exec (.unparkLoaded ⟨b, counts⟩) s = .next t ∧ t.stack.mem = (loadImage x.park x.pages.flatten 0 s).stack.mem ∧
      t.power.siloSpent = s.power.siloSpent + s.eventEnergy counts ∧
      t.berth b = some { x with st := .ready, park := [], cmd := none, after := if x.cmd.isSome then [] else x.after,
                                since := s.now, held := 0, siloE := x.siloE + s.eventEnergy counts } ∧
      t.silo.pool = s.silo.pool.filter (fun e => !x.park.contains e) ∧ ∀ b', b' ≠ b → t.berth b' = s.berth b') ∧
  (∀ x, s.berth b = some x → x.st = .unparking →
    let live := fun (cs : List W32) => cs.filter (fun c => s.enabled (cidQuay c))
    ∃ t, exec (.unparkReadFail b) s = .next t ∧
    t.berth b = some { x with st := .failed, slot := none, cmd := none, after := if x.cmd.isSome then [] else x.after,
                              adopting := none, pages := x.pages.map live, spill := live x.spill, tree := live x.tree } ∧
    getBits (t.reg (kSilo 0)) 24 8 = 0xE0 ∧ (∀ b', b' ≠ b → t.berth b' = s.berth b') ∧ t.stack = s.stack ∧ t.silo = s.silo) ∧
  (∀ x k, s.berth b = some x → s.yeweric = true → getBits (s.reg (kMb 0x40)) 0 1 = 1 → s.serve.mirLost < 3 →
    64 * (k + 1) < x.position →
    let ask := s.out ++ [.message (BitVec.ofNat 16 (getBits (s.reg (kMb 0x40)) 16 16)) (.want s.homeEid x.tag x.tenant x.mpos)]
    (∃ t, exec (.mirrorCopy b k false false) s = .next t ∧ t = { s with serve := t.serve, out := ask } ∧ t.serve.mirLost = 0 ∧
      t.berth b = some { x with mpos := if k = x.mpos then k + 1 else x.mpos } ∧ ∀ b', b' ≠ b → t.berth b' = s.berth b') ∧
    (∃ t, exec (.mirrorCopy b k true false) s = .next t ∧ getBits (t.reg (kMb 0x44)) 30 1 = 1 ∧ t.noted 174 ∧
      t.serve = { s.serve with mirLost := 0 }) ∧
    (∃ t, exec (.mirrorCopy b k false true) s = .next t ∧ t.serve = { s.serve with mirLost := s.serve.mirLost + 1 } ∧
      (s.serve.mirLost = 2 → getBits (t.reg (kMb 0x44)) 31 1 = 1 ∧ t.noted 174) ∧
      (s.serve.mirLost < 2 → t.regs = s.regs ∧ t.out = ask))) ∧
  (∀ x m most whole cs s', s.serve.manifest = some m → s.berth b = some x → x.adopting = some most →
    getBits (s.reg (kMb 0x4C)) 0 16 ≠ s.homeEid.toNat →
    let n := min whole most
    takeMany x.tenant (n * m.ngroup) s = some (cs, s') → ∃ t, exec (.adoptFetchDone b whole) s = .next t ∧
      t.berth b = some { x with adopting := none, promptDone := 64 * n, position := 64 * n,
                                pages := if n = 0 then [] else addPages m.ngroup n [] cs } ∧
      (∀ b', b' ≠ b → t.berth b' = s.berth b') ∧ t.stack.tags = s'.stack.tags)

/-! ### Stillwater and slack-water sync (R309 to R319) -/

/-- SW_WRITE and SW_CHANGE_DONE (R309, R310, R316, R318, R330): a change of SW that may happen stores SW, shows PENDING and
sets VCORE to go to the new point's voltage; one that may not sets CFG_REJ and stores nothing; once VCORE is there ACTIVE takes
SW, PENDING clears and alignment has ended. -/
def Obligations.StillwaterChanges : Prop := ∀ (s : State),
  (∀ d : W32,
    let f := writeForm (s.maskMode 0) false d
    let v := mergeBits (s.reg 0x80) f
    let sw := getBits v 0 1
    (sw ≠ getBits (s.reg 0x80) 0 1 → s.swMayChange = false → ∃ t, exec (.swWrite d) s = .next t ∧
      t = { s with regs := t.regs } ∧ t.reg 0x84 = s.reg 0x84 ||| 0x80 ∧ ∀ k, k ≠ 0x84 → t.reg k = s.reg k) ∧
    (sw = getBits (s.reg 0x80) 0 1 → ∃ t, exec (.swWrite d) s = .next t ∧ t = { s with regs := t.regs } ∧
      getBits (t.reg 0x80) 0 1 = sw ∧ getBits (t.reg 0x80) 2 6 = getBits v 2 6 ∧ ∀ k, k ≠ 0x80 → t.reg k = s.reg k) ∧
    (sw ≠ getBits (s.reg 0x80) 0 1 → s.swMayChange = true → ∃ t, exec (.swWrite d) s = .next t ∧
      t = { s with regs := t.regs, power := { s.power with rails := t.power.rails } } ∧ getBits (t.reg 0x80) 0 1 = sw ∧
      getBits (t.reg 0x84) 1 1 = 1 ∧ getBits (t.reg 0x84) 0 1 = getBits (s.reg 0x84) 0 1 ∧
      (t.rail 0).target = s.pointMv (s.swTarget (sw = 1)) (sw = 1) ∧ (t.rail 0).mv = (s.rail 0).mv ∧
      ∀ k, k ∉ [0x80, 0x84, kBw 0x10, kTb 0x44] → t.reg k = s.reg k)) ∧
  (getBits (s.reg 0x84) 1 1 = 1 → (s.rail 0).mv = (s.rail 0).target → (s.rail 0).step = none →
    ∃ t, exec .swChangeDone s = .next t ∧ t = { s with regs := t.regs, power := { s.power with rails := t.power.rails } } ∧
      getBits (t.reg 0x84) 0 1 = getBits (s.reg 0x80) 0 1 ∧ getBits (t.reg 0x84) 1 1 = 0 ∧
      getBits (t.reg (kTb 0x44)) 0 1 = 0 ∧ ∀ k, k ∉ [0x84, kBw 0x10, kTb 0x44] → t.reg k = s.reg k)

/-- ARM, its failures and DISARM (R315), over a module whose SWS_AT is the edge it was armed with where one is armed: ARM is
accepted on exactly these conditions; a refused one stores nothing and sets CFG_REJ; a time base that is not ROOT or LOCKED at
SWS_AT − 2,000 ns skips the sequence with FAIL and CAUSE 1; a failed quiet check leaves the dividers, reopens ingress at SWS_AT
+ 1,000 ns and ends in FAIL with CAUSE 2; ALIGNED keeps its value after either; an armed module refuses CHART_EN with CMD_REJ;
DISARM before SWS_AT − 2,000 ns disarms and is ignored later. -/
def Obligations.SyncArming : Prop := ∀ (s : State),
  let st := kTb 0x44
  let e := s.pair (kTb 0x48)
  let bits := fun (t : State) (lo n : Nat) => getBits (t.reg st) lo n
  let accept := (s.chartState = 0 ∨ s.chartState = 6) ∧ getBits (s.reg 0x84) 1 1 = 0 ∧ bits s 1 1 = 0 ∧
    e.toNat % 50 = 0 ∧ s.now.toNat + 10000 ≤ e.toNat
  let only := fun (s' t : State) => t = { s' with regs := t.regs, fabric := t.fabric } ∧ ∀ k, k ≠ st → t.reg k = s.reg k
  let fails := fun (t : State) (cause : Nat) => bits t 1 1 = 0 ∧ bits t 4 1 = 1 ∧ bits t 6 2 = cause ∧ bits t 0 1 = bits s 0 1
  (accept → ∃ t, exec .swsArm s = .next t ∧ only s t ∧ t.reg st = s.reg st ||| 2) ∧
  (¬ accept → ∃ t, exec .swsArm s = .next t ∧ only s t ∧ t.fabric = s.fabric ∧ t.reg st = s.reg st ||| 0x20) ∧
  (bits s 1 1 = 1 → s.fabric.swsAt = e →
    (s.fabric.sws = .off → s.tbState ≠ 2 → ∃ t, exec .swsClose s = .next t ∧ t.now = (s.passTo (e - 2000)).now ∧
      t.fabric = s.fabric ∧ fails t 1) ∧
    (s.fabric.sws = .off → s.now.toNat + 2000 < e.toNat → ∃ t, exec .swsDisarm s = .next t ∧ only s t ∧
      t.fabric = s.fabric ∧ bits t 1 1 = 0 ∧ bits t 0 1 = bits s 0 1) ∧
    (e.toNat ≤ s.now.toNat + 2000 → exec .swsDisarm s = .next s) ∧
    (s.fabric.sws = .closed → (s.passTo (e - 1000)).quiet = false →
      ∃ t, exec .swsQuietCheck s = .next t ∧ t.fabric.sws = .busy ∧ t.regs = s.regs) ∧
    (s.fabric.sws = .busy → exec .swsDividerRestart s = .next s ∧
      ((∀ p, (s.port p).held = []) → ∃ t, exec .swsReopen s = .next t ∧ t.now = (s.passTo (e + 1000)).now ∧
        t.fabric.sws = .off ∧ fails t 2))) ∧
  (bits s 1 1 = 1 → s.power.replan = false → ∀ buf, ∃ t, exec (.chartEn buf) s = .next t ∧
    getBits (t.reg (kChart 4)) 12 1 = 1 ∧ t.chartState = s.chartState ∧ t.tide = s.tide)

/-- Slack-water sync (R314 to R316, R319): ARM and DISARM, the actions at their times from the armed edge, the two ways it
fails, the way it succeeds, and the realignment of a port. -/
def Obligations.SlackWaterSync : Prop := ∀ (s : State),
  let st := kTb 0x44
  let e := s.fabric.swsAt
  let only := fun (s' t : State) => t = { s' with regs := t.regs } ∧ ∀ k, k ≠ st → t.reg k = s'.reg k
  let armed := s.swsArmed = true
  let at' := fun (stage : SwsStage) (s' : State) => { s' with fabric := { s'.fabric with sws := stage } }
  (s.swsArmOk = true → ∃ t, exec .swsArm s = .next t ∧ t = { s with regs := t.regs, fabric := t.fabric } ∧
    t.fabric = { s.fabric with sws := .off, swsAt := s.pair (kTb 0x48) } ∧ t.swsArmed = true ∧
    ∀ k, k ≠ st → t.reg k = s.reg k) ∧
  (s.swsArmOk = false → ∃ t, exec .swsArm s = .next t ∧ only s t ∧ t.reg st = s.reg st ||| 0x20) ∧
  (armed → s.fabric.sws = .off → s.now.toNat + 2000 < e.toNat →
    ∃ t, exec .swsDisarm s = .next t ∧ only s t ∧ t.swsArmed = false) ∧
  (e.toNat ≤ s.now.toNat + 2000 → exec .swsDisarm s = .next s) ∧
  (armed → s.fabric.sws = .off → let s' := s.passTo (e - 2000)
    (s.tbState = 2 → exec .swsClose s = .next (at' .closed s')) ∧
    (s.tbState ≠ 2 → ∃ t, exec .swsClose s = .next t ∧ t = { s' with regs := t.regs, out := t.out } ∧ t.swsArmed = false ∧
      getBits (t.reg st) 6 2 = 1 ∧ getBits (t.reg st) 4 1 = 1 ∧ t.noted 167 ∧ s'.regsBut t [st])) ∧
  (armed → s.fabric.sws = .closed → let s' := s.passTo (e - 1000)
    exec .swsQuietCheck s = .next (at' (if s'.quiet then .quiet else .busy) s')) ∧
  (armed → s.fabric.sws = .quiet → let s' := s.passTo e
    exec .swsDividerRestart s = .next (at' .restarted { s' with time := { s'.time with frac := 0, aclk := e.toNat % 10 } })) ∧
  (armed → s.fabric.sws = .restarted → exec .swsFifoReset s = .next (at' .fifos (s.passTo (e + 50)))) ∧
  (armed → s.fabric.sws = .fifos → let s' := s.passTo (e + 100)
    exec .swsMarkerSend s = .next (at' .marked { s' with
      out := s'.out ++ ((List.range 16).filter (fun p => (s.port p).st = .up)).map Out.marker })) ∧
  (armed → s.fabric.sws = .marked → let s' := s.passTo (e + 600)
    ∃ t, exec .swsLatencyFix s = .next t ∧ t = { at' .fixed s' with regs := t.regs } ∧
      (∀ p, p < 16 → getBits (t.reg st) (16 + p) 1 =
        if (s.port p).st = .up ∧ (s.port p).upAt.toNat ≤ e.toNat + 100 then 1 else getBits (s.reg st) (16 + p) 1) ∧
      getBits (t.reg st) 0 16 = getBits (s.reg st) 0 16 ∧ ∀ k, k ≠ st → t.reg k = s'.reg k) ∧
  (armed → (∀ p, (s.port p).held = []) → let s' := s.passTo (e + 1000)
    (s.fabric.sws = .busy → ∃ t, exec .swsReopen s = .next t ∧ t.fabric.sws = .off ∧ t.swsArmed = false ∧
      getBits (t.reg st) 6 2 = 2 ∧ getBits (t.reg st) 4 1 = 1 ∧ t.noted 167 ∧ s'.regsBut t [st] ∧ t.stack = s.stack ∧
      ∀ p, t.port p = s.port p) ∧
    (s.fabric.sws = .fixed → ∃ t, exec .swsReopen s = .next t ∧ t.fabric.sws = .off ∧ t.swsArmed = false ∧
      getBits (t.reg st) 0 1 = 1 ∧ getBits (t.reg st) 3 1 = 1 ∧ t.noted 167 ∧ s'.regsBut t [st] ∧ t.stack = s.stack ∧
      ∀ p, t.port p = s.port p)) ∧
  (∀ p, p < 16 → (s.port p).st = .up → getBits (s.reg st) (16 + p) 1 = 0 →
    let s' := s.passTo (w64 (50 * ceilDiv ((s.port p).upAt.toNat + 1000) 50))
    ∃ t, exec (.portRealign p) s = .next t ∧ t = { s' with regs := t.regs, out := s'.out ++ [.marker p] } ∧
      getBits (t.reg st) (16 + p) 1 = 1 ∧ ∀ k, k ≠ st → t.reg k = s'.reg k)

/-! ### Power states (R320 to R328, R339, R349) -/

/-- PWR_CMD (R322, R323, R326): what each target does in each power state, and where it is refused with CMD_REJ and
PWR_REFUSED. -/
def Obligations.PowerCommands : Prop := ∀ (s : State),
  let st := s.power.st
  let all : List Instr := [.pwrCmdA0, .pwrCmdA1, .pwrCmdS1, .pwrCmdS2, .pwrCmdS3]
  let sleeps : List (Instr × Nat × PwrState) := [(.pwrCmdS1, 2, .s1), (.pwrCmdS2, 3, .s2), (.pwrCmdS3, 4, .s3)]
  let refused := fun (c : Instr) => ∃ t, exec c s = .next t ∧ s.refusesPower t
  let awake := (st = .a0 ∨ st = .a1) ∧ s.power.a1Next = none ∧ s.power.replan = false
  let wanted := fun (c : Instr) (a1 : Bool) =>
    (s.chartRuns = false → ∃ t, exec c s = .next t ∧ t.noted 165 ∧ s.regsBut t [] ∧
      t = { s with regs := t.regs, out := t.out, power := { s.power with st := if a1 then .a1 else .a0 } }) ∧
    (s.chartRuns = true → ∃ t, exec c s = .next t ∧ getBits (t.reg (kAon 4)) 24 3 = bit a1 ∧
      t = { s with regs := t.regs, power := { s.power with a1Next := some a1 } } ∧ ∀ k, k ≠ kAon 4 → t.reg k = s.reg k)
  (∀ c ∈ all, st = .s3 ∨ st = .exiting ∨ ((st = .a0 ∨ st = .a1) ∧ (s.power.a1Next ≠ none ∨ s.power.replan = true)) →
    refused c) ∧
  (awake → st = .a0 → refused .pwrCmdA0 ∧ wanted .pwrCmdA1 true) ∧
  (awake → st = .a1 → refused .pwrCmdA1 ∧ wanted .pwrCmdA0 false) ∧
  (∀ c ∈ sleeps, awake → (s.maySleep = false → refused c.1) ∧
    (s.maySleep = true → c.2.1 = 2 ∨ s.serve.berths = [] → ∃ t, exec c.1 s = .next t ∧ s.entersSleep t c.2.1 c.2.2)) ∧
  (st = .s1 ∨ st = .s2 → ∃ t, exec .pwrCmdA0 s = .next t ∧ s.exitsFor t 1) ∧
  (st = .s1 ∨ st = .s2 → refused .pwrCmdA1 ∧ refused .pwrCmdS1) ∧
  (st = .s1 → s.serve.berths = [] → ∃ t, exec .pwrCmdS2 s = .next t ∧ s.entersSleep t 3 .s2) ∧
  (st = .s2 → refused .pwrCmdS2) ∧
  (st = .s1 ∨ st = .s2 → s.serve.berths = [] → ∃ t, exec .pwrCmdS3 s = .next t ∧ s.entersSleep t 4 .s3) ∧
  (st = .entering → ∃ t, exec .pwrCmdA0 s = .next t ∧ t.power = { s.power with
      latches := t.power.latches, latched := some (s.power.latched.getD (1, s.now)) } ∧ t.latchCount 1 = min 255 (s.latchCount 1 + 1) ∧
    getBits (t.reg 0x200004) 16 8 = 0x95 ∧ t.noted 165 ∧ s.regsBut t [0x200004]) ∧
  (∀ c ∈ all, st = .entering → c ≠ .pwrCmdA0 → refused c) ∧
  (∀ c ∈ all, st = .trip → c = .pwrCmdA0 ∨ c = .pwrCmdA1 ∨ s.power.coolSince = none → refused c) ∧
  (∀ c ∈ sleeps, st = .trip → s.mayLeaveTrip = true → c.2.1 = 2 ∨ s.serve.berths = [] →
    ∃ t, exec c.1 s = .next t ∧ s.entersSleep t c.2.1 c.2.2)

/-- Entry, wakes and exit (R320, R323 to R328; entry 2 for what lost memory reads as), gating in A1 (R321) and the thermal trip
(R339): an entry waits for its parks and for the rails of its steps and then ends in its state with what that loses and keeps,
which wakes begin an exit, its steps up to A0 with every enabled quay IDLE and its apron 0, and a trip that stops every enabled
quay and leaves no chart. -/
def Obligations.SleepWakeAndTrip : Prop := ∀ (s : State),
  (s.power.st = .entering →
    (∀ b x, s.power.entry = 0 → s.power.target ≠ .s1 → s.serve.berths = [(b, x)] → x.st = .parking →
      exec .sleepEntryDone s = .next s) ∧
    (s.power.entry = 1 → s.railSettled 0 = false → exec .sleepEntryDone s = .next s) ∧
    (s.power.entry = 2 → s.railSettled 1 = false → exec .sleepEntryDone s = .next s) ∧
    (s.power.entry = 1 → s.power.target = .s1 → s.railSettled 0 = true → (s.rail 1).mv = 650 → s.power.latched = none →
      ∃ t, exec .sleepEntryDone s = .next t ∧ t.power.st = .s1 ∧ ∀ p, p < 16 → (s.port p).st = .up → (t.port p).lpi = true) ∧
    (s.power.entry = 2 → s.railSettled 1 = true → s.power.latched = none →
      (s.power.target = .s1 → ∃ t, exec .sleepEntryDone s = .next t ∧ t.power = { s.power with st := .s1 } ∧ t.noted 165 ∧
        t.stack = s.stack ∧ t.ports = s.ports ∧ t.silo = s.silo ∧ t.serve = s.serve ∧ t.quays = s.quays ∧ t.time = s.time) ∧
      (s.power.target = .s2 → ∃ t, exec .sleepEntryDone s = .next t ∧ t.power = { s.power with st := .s2 } ∧ t.noted 165 ∧
        t.stack = s.stack ∧ t.ports = s.ports ∧ t.silo = s.silo ∧ t.serve = s.serve ∧ t.quays = s.quays ∧
        t.time = { s.time with shadow := (s.now.toNat + 10 - s.time.aclk % 10) % 10 }) ∧
      (s.power.target = .s3 → ∃ t, exec .sleepEntryDone s = .next t ∧ t.power.st = .s3 ∧ t.stack.container = s.stack.container ∧
        (∀ a, t.stack.mem.get a = 0) ∧ (∀ r, r < 8 → r ≠ 5 → (t.rail r).mv = 0) ∧ t.silo.mem = s.silo.mem ∧ t.now = s.now ∧
        t.serve = s.serve ∧ t.pending = s.pending ∧ ∀ o, 8 ≤ o → o < 0x10000 → t.reg (kAon o) = s.reg (kAon o)))) ∧
  (∀ (c : Instr) (src : Nat), s.wakeEnabled src = true → wakeAllowed s.power.st src = true →
    s.power.st = .s1 ∨ s.power.st = .s2 ∨ s.power.st = .s3 →
    (c = .smbusWake ∧ src = 2) ∨ (∃ pin, c = .pinWake pin ∧ src = 3 ∧ (s.pin (pin % 8)).fn = 5 ∧ (s.pin (pin % 8)).next = none) ∨
      (∃ p, c = .wakeFrameRx p ∧ src = 5 ∧ (s.port p).st = .up ∧ (s.port p).lpi = true) →
    ∃ t, exec c s = .next t ∧ s.exitsFor t src) ∧
  (∀ w, w = s.pair (kAon 0x18) →
    s.wakeEnabled 4 = true → s.power.st = .s1 ∨ s.power.st = .s2 ∨ s.power.st = .s3 → w ≠ 0 → s.now.toNat ≤ w.toNat →
    ∃ t, exec .wakeTimer s = .next t ∧ (s.passTo w).exitsFor t 4) ∧
  (s.power.st = .exiting → s.power.groups = 0 → ∃ t, exec .wakeSlotEnd s = .next t ∧
    t = { s with regs := t.regs, power := { s.power with groups := 1, rails := t.power.rails } } ∧
    (t.rail 0).target = s.pointMv s.point s.stillwater ∧ (t.rail 1).target = s.pointVsram s.point ∧ (t.rail 2).target = 900 ∧
    ∀ k, k ≠ kBw 0x10 → t.reg k = s.reg k) ∧
  (∀ g, g < 8 → s.power.st = .exiting → s.power.groups = g + 1 → s.railsUp = true →
    ∃ t, exec (.quayGroupPowerGood g) s = .next t ∧
      t = { s with regs := t.regs, power := { s.power with groups := g + 2 } } ∧ getBits (t.reg (kAon 4)) (16 + g) 1 = 1 ∧
      ∀ k, k ≠ kAon 4 → t.reg k = s.reg k) ∧
  (s.power.st = .exiting → s.power.groups = 9 → ∃ t, exec .sleepExitDone s = .next t ∧ t.power = { s.power with st := .a0 } ∧
    t.noted 165 ∧ (∀ q, q < 144 → t.quay q = (s.quay q).asleep .idle) ∧ getBits (t.reg (kTb 0x44)) 0 1 = 0 ∧
    (∀ q a, q < 144 → t.enabled q = true → stackAddr q 0 0 ≤ a → a < stackAddr q 0 0 + 0x60000 → t.stack.mem.get a = 0) ∧
    (s.power.from' = .s1 → ∀ a, saSpace a ≠ 0 → t.stack.mem.get a = s.stack.mem.get a) ∧
    (s.power.from' ≠ .s1 → (s.tbRole = 2 → t.tbState = 1) ∧ (s.tbRole = 1 → t.tbState = 2) ∧
      ∀ a, saSpace a = 2 → t.stack.mem.get a = 0)) ∧
  (s.power.st = .a1 → s.chartRuns = true → ∃ t, exec .a1GateOffset s = .next t ∧ t = { s with quays := t.quays } ∧
    ∀ q, q < 144 → t.quay q = { s.quay q with gated := (t.quay q).gated } ∧
      (s.enabled q = true → (s.quay q).st = .run → (s.quay q).hold = .tideNext → (s.quay q).idleUnits = true →
        (s.quay q).sb = [] → (t.quay q).gated = true)) ∧
  (∃ t, exec .thermTrip s = .next t ∧ t.power.st = .trip ∧ getBits (t.reg (kAon 4)) 5 1 = 1 ∧
    getBits (t.reg 0x200004) 16 8 = 0x93 ∧ t.noted 164 ∧ t.chartState = 0 ∧
    (∀ q, q < 144 → s.enabled q = true → (t.quay q).st = .stopped ∧ (t.quay q).sb = [] ∧ (t.quay q).sends = []) ∧
    (∀ q, q < 144 → s.enabled q = false → t.quay q = s.quay q) ∧
    ((∀ q, (s.quay q).sb = []) → s.serve.berths = [] → t.stack.mem = s.stack.mem))

/-! ### Breakwater (R329 to R338, R342 to R348) -/

/-- Rails and telemetry, the estimate and the emergency limit, the cap, learning and droop (R330 to R332, R335 to R338, R348):
what each event shows and changes, and what a failed rail change leaves. -/
def Obligations.BreakwaterEvents : Prop := ∀ (s : State),
  let code := fun (t : State) (c : Nat) => getBits (t.reg (kBw 4)) 16 8 = c ∧ t.noted 164
  (∀ r, r < 3 →
    let g := entryGoesOn s
    let x := s.rail r
    let y := g.rail r
    let fails := fun (s t : State) (c : Nat) =>
      let x := s.rail r
      let back := x.mv < x.target ∧ s.power.st = .exiting
      getBits (t.reg (kBw 4)) 5 1 = 1 ∧ getBits (t.reg (kAon 4)) 8 8 = c ∧ code t c ∧
      t.rail r = { x with target := x.mv, step := none } ∧ t.stack = s.stack ∧ t.quays = s.quays ∧
      (back → t.power.st = s.power.from' ∧ getBits (t.reg (kAon 4)) 16 8 = 0) ∧ (¬ back → t.power.st = s.power.st)
    (s.power.st ≠ .entering → g = s) ∧
    (g.railTurn r = false → ∀ acks, exec (.avsStep r acks) s = .next g) ∧
    (∀ acks, y.step = none → y.mv ≠ y.target → getBits (g.reg (kBw 4)) 5 1 = 0 → g.railTurn r = true →
      (true ∈ acks.take 3 → ∃ t, exec (.avsStep r acks) s = .next t ∧
        t = { g with out := t.out, power := { g.power with rails := t.power.rails } } ∧ t.rail r = { y with step := some y.next } ∧
        ∀ r', r' ≠ r → t.rail r' = g.rail r') ∧
      (true ∉ acks.take 3 → ∃ t, exec (.avsStep r acks) s = .next t ∧ fails g t 0x91)) ∧
    (∀ v, x.step = some v → (∃ t, exec (.avsTmo r) s = .next t ∧ fails s t 0x92) ∧
      ∃ t, exec (.avsVdone r) s = .next t ∧ t = { s with power := { s.power with rails := t.power.rails } } ∧
        t.rail r = { x with mv := v, step := none } ∧ ∀ r', r' ≠ r → t.rail r' = s.rail r')) ∧
  (∀ (v a p : W16) (rs : List (W16 × W16 × BitVec 12)), rs.length = 5 →
    let read := rs.map (fun r => ({ vout := some r.1, iout := some r.2.1, temp := some r.2.2, fault := some false } : RailReading))
    ∃ t, exec (.pmbusPoll { vin := some v, iin := some a, pin := some p } read) s = .next t ∧ t = { s with regs := t.regs } ∧
      t.reg (kBw 0x100) = w32 (v.toNat + 2 ^ 16 * a.toNat) ∧ t.reg (kBw 0x104) = w32 p.toNat ∧
      (∀ n r, rs[n]? = some r → t.reg (kBw (0x110 + 8 * n)) = w32 (r.1.toNat + 2 ^ 16 * r.2.1.toNat) ∧
        t.reg (kBw (0x114 + 8 * n)) = w32 r.2.2.toNat) ∧
      ∀ k, k ≠ kBw 0x100 → k ≠ kBw 0x104 → (k < kBw 0x110 ∨ kBw 0x138 ≤ k) → t.reg k = s.reg k) ∧
  (∃ t, exec (.pmbusPoll { vin := none, iin := none, pin := none } []) s = .next t ∧
    t = { s with regs := t.regs, out := t.out } ∧ getBits (t.reg (kBw 4)) 6 1 = 1 ∧ code t 0x98 ∧ s.regsBut t [kBw 4]) ∧
  (∀ (v a p i : W16) (temp : BitVec 12),
    ∃ t, exec (.pmbusPoll { vin := some v, iin := some a, pin := some p }
        [{ vout := none, iout := some i, temp := some temp, fault := some true }]) s = .next t ∧
      t.reg (kBw 0x110) = w32 (getBits (s.reg (kBw 0x110)) 0 16 + 2 ^ 16 * i.toNat) ∧ t.reg (kBw 0x114) = w32 temp.toNat ∧
      getBits (t.reg (kBw 4)) 6 2 = 3 ∧ code t 0x9A ∧ t.stack = s.stack ∧ t.quays = s.quays) ∧
  (∀ counts,
    let s' := s.passTo (w64 (2000 * ceilDiv s.now.toNat 2000))
    let est := s'.powerOver counts 2000
    let ws := (est :: s.power.windows).take 500
    let avg := ws.sum / ws.length
    ∃ t, exec (.estimateWindow counts) s = .next t ∧ t.power.windows = ws ∧ t.reg (kBw 8) = w32 (min est 65535) ∧
      t.reg (kBw 0xC) = w32 (min avg 65535) ∧ t.stack = s.stack ∧
      (100 * est ≤ 1250 * s.cap → 100 * avg ≤ 1020 * s.cap → t = { s' with regs := t.regs, power := t.power } ∧
        t.power.emergAt = none ∧ t.power.overSince = none ∧ ∀ k, k ≠ kBw 8 → k ≠ kBw 0xC → t.reg k = s.reg k) ∧
      (1250 * s.cap < 100 * est → s.power.emergAt = none → getBits (t.reg (kBw 4)) 3 1 = 1 ∧ code t 0x94 ∧
        ∀ p, s.pointBelow = some p → t.point = p ∧ t.power.lowered = s.power.lowered + 1)) ∧
  (∀ d : W32, getBits d 16 1 = 0 →
    let v := getBits d 0 11
    (v < 700 ∨ 1500 < v → ∃ t, exec (.capWrite d) s = .next t ∧ t = { s with regs := t.regs, c64 := t.c64, out := t.out } ∧
      getBits (t.reg 0x404) 3 1 = 1 ∧ t.noted 171 ∧ ∀ k, errKey k = false → t.reg k = s.reg k) ∧
    (700 ≤ v → v ≤ 1500 → s.stillwater = true → ∃ t, exec (.capWrite d) s = .next t ∧
      t = { s with regs := t.regs, power := { s.power with capStaged := some (BitVec.ofNat 11 v) } } ∧
      t.reg (kBw 4) = s.reg (kBw 4) ||| 4 ∧ ∀ k, k ≠ kBw 4 → t.reg k = s.reg k) ∧
    (700 ≤ v → v ≤ 1500 → s.stillwater = false → ∃ t, exec (.capWrite d) s = .next t ∧ t = { s with regs := t.regs } ∧
      t.cap = v ∧ ∀ k, k ≠ kBw 0 → t.reg k = s.reg k)) ∧
  (∀ d t, getBits d 16 1 = 1 → exec (.capWrite (d &&& 0xFFFEFFFF)) s = .next t →
    exec (.capWrite d) s = exec .learnReset t) ∧
  (∃ t, exec .learnReset s = .next t ∧ t = { s with regs := t.regs, power := { s.power with maxM := [] } } ∧
    getBits (t.reg (kBw 4)) 24 8 = 0 ∧ getBits (t.reg (kBw 4)) 0 1 = 0 ∧
    (∀ k, k < 64 → t.reg (kLearn k) = w32 (min 65535 (115 * s.estOf k / 100))) ∧
    ∀ k, k ≠ kBw 4 → (k < kLearn 0 ∨ kLearn 64 ≤ k) → t.reg k = s.reg k) ∧
  (∀ mv, (s.power.stretch = true ∨ mv < (if s.stillwater then 45 else 25) → exec (.droop mv) s = .next s) ∧
    (s.power.stretch = false → (if s.stillwater then 45 else 25) ≤ mv → ∃ t, exec (.droop mv) s = .next t ∧
      t = { s with regs := t.regs, out := t.out, tide := { s.tide with var := s.tide.var ||| 8 },
                   power := { s.power with stretch := true } } ∧
      getBits (t.reg (kBw 4)) 4 1 = 1 ∧ getBits (t.reg (kTb 0x44)) 0 1 = 0 ∧
      (s.stillwater = true → getBits (t.reg 0x84) 4 1 = 1 ∧ t.noted 167 ∧ code t 0x96) ∧
      (s.stillwater = false → t.out = s.out) ∧ s.regsBut t [kBw 4, kTb 0x44, 0x84])) ∧
  (s.power.stretch = false → exec .droopEnd s = .next s) ∧
  (s.power.stretch = true → ∃ t, exec .droopEnd s = .next t ∧
    t = { s with regs := t.regs, power := { s.power with stretch := false } } ∧ getBits (t.reg (kTb 0x44)) 0 1 = 0 ∧
    ∀ k, k ≠ kTb 0x44 → t.reg k = s.reg k)

/-- Ageing and calibration (R343, R346, R348): a re-plan and its result, the margin report, the calibration commands with their
key, and what each leaves in staging or for the next boot. -/
def Obligations.AgeingAndCalibration : Prop := ∀ (s : State),
  let ageing := s.power.st = .a0 ∧ s.noChart = true ∧ s.allStopped = true
  let alarm := fun (t : State) => getBits (t.reg (kBw 4)) 8 1 = 1 ∧ getBits (t.reg (kBw 4)) 16 8 = 0x99 ∧ t.noted 164
  let status := fun (t : State) (m : W32) => t.reg (kBw 0x34) = s.reg (kBw 0x34) ||| m ∧ ∀ k, k ≠ kBw 0x34 → t.reg k = s.reg k
  (ageing → ∃ t, exec .ageReplan s = .next t ∧ t = { s with regs := t.regs, power := { s.power with replan := true } } ∧
    t.reg (kBw 0x24) = s.reg (kBw 0x24) ||| 1 ∧ ∀ k, k ≠ kBw 0x24 → t.reg k = s.reg k) ∧
  (¬ ageing → ∃ t, exec .ageReplan s = .next t ∧ t = { s with regs := t.regs } ∧
    t.reg (kAon 4) = s.reg (kAon 4) ||| 0x10 ∧ ∀ k, k ≠ kAon 4 → t.reg k = s.reg k) ∧
  (∀ offsets disabled margin worst, s.power.replan = true →
    ∃ t, exec (.replanDone offsets disabled margin worst) s = .next t ∧
      t = { s with regs := t.regs, c64 := t.c64, out := t.out, siloLog := t.siloLog, free := t.free,
                   power := { s.power with replan := false, rails := t.power.rails },
                   silo := { s.silo with savedAge := t.silo.savedAge } } ∧
      (s.siloWritable = true → t.silo.savedAge = (t.reg (kBw 0x28), BitVec.ofNat 8 (getBits (t.reg (kBw 0x24)) 16 8))) ∧
      (s.siloWritable = false → t.silo = s.silo ∧ t.c64 = s.c64) ∧
      (∀ p, p < 8 → getBits (t.reg (kBw 0x28)) (4 * p) 4 =
        max (getBits (s.reg (kBw 0x28)) (4 * p) 4) (min 8 ((offsets.drop p).headD 0))) ∧
      t.reg (kBw 0x24) = w32 ((getBits (s.reg (kBw 0x24)) 16 8 ||| disabled.toNat) * 2 ^ 16 + worst.toNat * 2 ^ 12 +
        margin.toNat * 16 + 2) ∧
      (disabled ≠ 0 → alarm t) ∧ (disabled = 0 → s.siloWritable = false → t.out = s.out) ∧
      (t.rail 0).target = t.pointMv s.point s.stillwater ∧
      s.regsBut t [kBw 4, kBw 0x10, kBw 0x24, kBw 0x28, kTb 0x44, kSilo 0]) ∧
  (∀ worst margin, ∃ t, exec (.ageMargin worst margin) s = .next t ∧
    t = { s with regs := t.regs, out := t.out, power := { s.power with ageLogged := t.power.ageLogged } } ∧
    getBits (t.reg (kBw 0x24)) 12 4 = worst.toNat ∧ getBits (t.reg (kBw 0x24)) 4 8 = margin.toNat ∧
    (margin.toNat < 15 → s.power.ageLogged = false → alarm t ∧ t.power.ageLogged = true) ∧
    (15 ≤ margin.toNat ∨ s.power.ageLogged = true → t.out = s.out ∧ t.power = s.power) ∧ s.regsBut t [kBw 4, kBw 0x24]) ∧
  (∀ c ∈ ([(.calLoad, 1), (.calCaptureEq, 2), (.calCommit, 3)] : List (Instr × Nat)),
    (s.power.calCmd = none → c.2 ≠ 3 ∨ s.calArmed = true → ∃ t, exec c.1 s = .next t ∧
      t = { s with regs := t.regs, power := { s.power with calCmd := some c.2 } } ∧ status t 1) ∧
    (s.power.calCmd ≠ none ∨ (c.2 = 3 ∧ s.calArmed = false) → ∃ t, exec c.1 s = .next t ∧ t = { s with regs := t.regs } ∧
      status t 4)) ∧
  exec (.calKeyWrite 0xCA1B) s = .next { s with power := { s.power with calKey := some s.now } } ∧
  (∀ d, d ≠ 0xCA1B → exec (.calKeyWrite d) s = .next s) ∧
  (∀ c, s.power.calCmd = some c → c = 1 ∨ c = 2 ∨ c = 3 → ∃ t, exec .calCmdDone s = .next t ∧
    t = { s with regs := t.regs, c64 := t.c64, out := t.out, siloLog := t.siloLog, free := t.free, power := { s.power with
      calCmd := none, calStage := t.power.calStage, calNext := t.power.calNext } } ∧
    getBits (t.reg (kBw 0x34)) 0 1 = 0 ∧ getBits (t.reg (kBw 0x34)) 1 1 = 1 ∧ s.regsBut t [kBw 0x34, kSilo 0] ∧
    (c ≠ 3 ∨ s.siloWritable = false → t.c64 = s.c64 ∧ t.out = s.out ∧ ∀ k, k ≠ kBw 0x34 → t.reg k = s.reg k) ∧
    (c = 1 → t.power.calNext = s.power.calNext ∧ ∀ i, i < 4096 → t.power.calStage.get i = s.calByte i) ∧
    (c = 2 → t.power.calNext = s.power.calNext ∧
      (∀ p i, p < 16 → i < 8 → (s.port p).st = .up → t.power.calStage.read (768 + 32 * p + 4 * i) 4 =
        leBytes 4 (getBits (s.reg (pkey p (0x100 + 4 * i))) 0 28)) ∧
      ∀ a, a < 768 ∨ 1280 ≤ a → t.power.calStage.get a = s.power.calStage.get a) ∧
    (c = 3 → t.power.calNext = (if s.siloWritable then some t.power.calStage else s.power.calNext) ∧
      t.power.calStage.get 20 = 1 ∧
      t.power.calStage.read 16 4 = leBytes 4 (crc32c (t.power.calStage.read 64 4032)).toNat ∧
      ∀ a, a < 16 ∨ 20 < a → t.power.calStage.get a = s.power.calStage.get a))

/-! ### Disabled units and the silo (R21, R22, R350 to R355, R367 to R382) -/

/-- DU_CMD, its record and PORT_DIST (R22, R351 to R355): a stopped enabled quay is retired and the lowest spare takes its
place, in RESET with its apron 0; a router takes its ports with it; a port is off for good; a command that may not run is REJ;
each accepted one shows BUSY, advances SEQ and leaves PORT_DIST invalid until it is recomputed. -/
def Obligations.UnitsAreRetired : Prop := ∀ (s : State),
  let du := fun (t : State) (b : Nat) => getBits (t.reg 0x274) b 1
  let changed := fun (t : State) => du t 1 = 1 ∧ getBits (t.reg 0x274) 8 8 = (getBits (s.reg 0x274) 8 8 + 1) % 256 ∧
    t.noted 170 ∧ t.distValid = false
  let rejected := fun (c : Instr) => ∃ t, exec c s = .next t ∧ t = { s with regs := t.regs, out := t.out } ∧ du t 0 = 1 ∧
    t.noted 170 ∧ s.regsBut t [0x274]
  let quiet := ∀ p, (s.port p).retry = [] ∧ (s.port p).egress = []
  (∀ q, q < 144 →
    (s.mayRetire q = true → s.qspare.getLsbD q = false → ∃ t, exec (.retireQuay q) s = .next t ∧ changed t ∧
      t.enabled q = false ∧ t.ports = s.ports ∧ t.power = s.power ∧
      t.silo = { s.silo with recQen := t.silo.recQen, recQspare := t.silo.recQspare } ∧ t.silo.recQen.getLsbD q = false ∧
      (∀ n, s.lowestSpare = some n → t.silo.recQen.getLsbD n = true ∧ t.enabled n = true ∧ t.qspare.getLsbD n = false ∧ (t.quay n).st = .reset ∧
        ∀ a, stackAddr n 0 0 ≤ a → a < stackAddr n 0 0 + 0x60000 → t.stack.mem.get a = 0) ∧
      (∀ n, n < 144 → n ≠ q → s.lowestSpare ≠ some n → t.enabled n = s.enabled n ∧ t.quay n = s.quay n) ∧
      (s.serve.berths = [] → s.lowestSpare = none → t.stack = s.stack ∧ s.regsBut t [0x274])) ∧
    (s.mayRetire q = false → rejected (.retireQuay q)) ∧
    (s.mayRetire q = true → s.qspare.getLsbD q = false → quiet → ∃ t, exec (.retireRouter q) s = .next t ∧ changed t ∧
      t.enabled q = false ∧ t.rbad.getLsbD q = true ∧ ∀ p, p < 16 → portRouter p = q →
        t.pbad.getLsbD p = true ∧ getBits (t.reg (pkey p 0)) 0 1 = 0 ∧ (t.port p).st = .off) ∧
    (s.qen.getLsbD q = false → s.qspare.getLsbD q = false → du s 1 = 0 → quiet →
      ∃ t, exec (.retireRouter q) s = .next t ∧ changed t ∧ t.qen = s.qen ∧ t.rbad.getLsbD q = true) ∧
    (s.mayRetire q = false → s.qen.getLsbD q = true ∨ s.qspare.getLsbD q = true ∨ du s 1 = 1 → rejected (.retireRouter q))) ∧
  (∀ p, p < 16 → quiet → ∃ t, exec (.retirePort p) s = .next t ∧ changed t ∧ t.pbad.getLsbD p = true ∧
    (t.port p).st = .off ∧ getBits (t.reg (pkey p 0)) 0 1 = 0 ∧ t.qen = s.qen ∧ ∀ p', p' ≠ p → t.port p' = s.port p') ∧
  (∀ ok, du s 1 = 1 →
    (ok = true → s.siloWritable = true → ∃ t, exec (.duPersistDone ok) s = .next t ∧ du t 1 = 0 ∧ t.silo =
      { s.silo with savedQen := s.silo.recQen, savedQspare := s.silo.recQspare, savedRbad := s.rbad, savedPbad := s.pbad } ∧
      s.regsBut t [0x274, kSilo 0]) ∧
    (ok = false ∨ s.siloWritable = false → ∃ t, exec (.duPersistDone ok) s = .next t ∧
      t = { s with regs := t.regs, out := t.out } ∧ du t 1 = 0 ∧ du t 2 = 1 ∧ t.noted 170 ∧ s.regsBut t [0x274])) ∧
  exec .portDistRecomputeDone s = .next { s with distValid := true }

/-- The commands of the silo controller, its scrub and its failures (R371, R372, R377, R379, R380, R382): what each command
begins and where it is refused, what its end does to the slot and its bytes, and what a failure shows. -/
def Obligations.SiloCommands : Prop := ∀ (s : State),
  let st := fun (t : State) (b : Nat) => getBits (t.reg (kSilo 0)) b 1
  let slot := getBits (s.reg (kSilo 8)) 0 8
  let kind := getBits (s.reg (kSilo 8)) 8 4
  let len := (s.reg (kSilo 0xC)).toNat
  let ready := st s 0 = 1 ∧ st s 1 = 0 ∧ st s 8 = 0
  let others := fun (t : State) (n : Nat) => ∀ m, m ≠ n → t.slotRec m = s.slotRec m
  let begins := fun (t : State) (cmd : Nat × Nat × Nat × W32) =>
    t = { s with regs := t.regs, silo := { s.silo with slots := t.silo.slots, cmd := some cmd } } ∧ st t 1 = 1 ∧
    others t slot ∧ ∀ k, k ≠ kSilo 0 → t.reg k = s.reg k
  let rejects := fun (c : Instr) (code : Nat) => ∃ t, exec c s = .next t ∧
    t = { s with regs := t.regs, out := t.out, siloLog := t.siloLog } ∧ st t 3 = 1 ∧
    getBits (t.reg (kSilo 0)) 24 8 = code ∧ s.regsBut t [kSilo 0]
  (∀ c ∈ ([.siloCreate, .siloSeal, .siloErase, .siloSaveRepair] : List Instr),
    (st s 0 = 0 ∨ st s 1 = 1 → rejects c 0xE4) ∧ (st s 0 = 1 → st s 1 = 0 → st s 8 = 1 → rejects c 0xE3)) ∧
  (ready → (s.slotRec slot).st = .empty → 1 ≤ len → len ≤ 65520 → 1 ≤ kind → kind ≤ 4 →
    (kind = 3 → ∀ p ∈ s.silo.slots, p.2.st ≠ .pool ∧ (p.2.kind = 3 → p.2.st = .empty)) →
    (∀ b, s.lowestRun len = some b → ∃ t, exec .siloCreate s = .next t ∧ begins t (1, slot, 0, 0) ∧ t.slotRec slot =
      { st := if kind = 3 then .pool else .opened, kind := kind, base := b, len := len, len1k := 0, crc := 0 }) ∧
    (s.lowestRun len = none → rejects .siloCreate 0xE2)) ∧
  (ready → (s.slotRec slot).st ≠ .empty ∨ len = 0 ∨ 65520 < len ∨ kind = 0 ∨ 4 < kind → rejects .siloCreate 0xE4) ∧
  (ready → ∀ x, x = s.slotRec slot →
    ((x.st = .opened ∧ len * 1024 ≤ x.size → ∃ t, exec .siloSeal s = .next t ∧
      begins t (2, slot, len, s.reg (kSilo 0x10)) ∧ t.slotRec slot = x) ∧
     (x.st ≠ .opened ∨ x.size < len * 1024 → rejects .siloSeal 0xE4) ∧
     (x.st = .opened ∨ x.st = .sealed → s.chartNames slot = false → ∃ t, exec .siloErase s = .next t ∧
      begins t (3, slot, 0, 0) ∧ t.slotRec slot = { x with st := .erasing }) ∧
     (x.st = .pool → s.poolUsed = false → ∃ t, exec .siloErase s = .next t ∧
      begins t (3, slot, 0, 0) ∧ t.slotRec slot = { x with st := .erasing }) ∧
     (x.st = .empty ∨ x.st = .erasing ∨ (x.st = .pool ∧ s.poolUsed = true) ∨ (x.st ≠ .pool ∧ s.chartNames slot = true) →
      rejects .siloErase 0xE4) ∧
     ∃ t, exec .siloSaveRepair s = .next t ∧ begins t (4, slot, 0, 0) ∧ t.slotRec slot = x)) ∧
  (∀ op n l crc, s.silo.cmd = some (op, n, l, crc) → 1 ≤ op → op ≤ 4 →
    let x := s.slotRec n
    let good := s.badPage x.addr (l * 1024) = false ∧ crc32c (s.silo.mem.read x.addr (l * 1024)) = crc
    ∃ t, exec .siloCmdDone s = .next t ∧ t.silo.cmd = none ∧ st t 1 = 0 ∧ st t 2 = 1 ∧ t.noted 168 ∧ others t n ∧
      s.regsBut t [kSilo 0] ∧ t.stack = s.stack ∧
      (op = 1 → t.silo = { s.silo with cmd := none }) ∧
      (op = 2 → t.silo.mem = s.silo.mem ∧ (good → t.slotRec n = { x with st := .sealed, len1k := l, crc := crc }) ∧
        (¬ good → t.slotRec n = x ∧ getBits (t.reg (kSilo 0)) 24 8 = 0xE5)) ∧
      (op = 3 → t.slotRec n = SiloSlot.init ∧
        ∀ a, t.silo.mem.get a = if x.addr ≤ a ∧ a < x.addr + x.size then 0 else s.silo.mem.get a) ∧
      (op = 4 → t.silo = { s.silo with
        cmd := none, savedRepairs := if s.siloWritable then s.stack.repairs else s.silo.savedRepairs })) ∧
  (getBits (s.reg (kSilo 0x50)) 8 1 = 0 → s.power.st = .a0 ∨ s.power.st = .a1 ∨ s.power.st = .s1 ∨ s.power.st = .s2 →
    let s' := s.passTo (s.silo.passAt + w64 (getBits (s.reg (kSilo 0x50)) 0 8 * 86400000000000))
    ∃ t, exec .siloScrubPass s = .next t ∧ t = { s' with regs := t.regs, silo := { s.silo with passAt := s'.now } } ∧
      getBits (t.reg (kSilo 0x50)) 8 1 = 1 ∧ ∀ k, k ≠ kSilo 0x50 → t.reg k = s.reg k) ∧
  (getBits (s.reg (kSilo 0x50)) 8 1 = 1 → ∃ t, exec .siloScrubPassEnd s = .next t ∧
    getBits (t.reg (kSilo 0x50)) 8 1 = 0 ∧ t.silo = s.silo ∧ t.stack = s.stack ∧ s.regsBut t [kSilo 0, kSilo 0x50]) ∧
  (∀ (pct : Byte) (a : W64),
    let n := ((s.slotAt (fld a.toNat 0 42) 1).map (·.1)).getD 255
    ∃ t, exec (.siloProgFail pct a) s = .next t ∧ getBits (t.reg (kSilo 0x50)) 16 8 = pct.toNat ∧
      t.stack = s.stack ∧ (pct.toNat < 10 → st t 7 = 1) ∧ (pct.toNat = 0 → st t 8 = 1) ∧
      (10 ≤ pct.toNat → st t 7 = st s 7 ∧ st t 8 = st s 8) ∧
      (s.power.st ≠ .entering → t.silo = s.silo ∧ t.serve = s.serve ∧ s.regsBut t [kSilo 0, kSilo 0x50]) ∧
      (∀ b x, s.power.st = .entering → s.parkingAt (fld a.toNat 0 42) = some b → s.berth b = some x →
        (∃ y, t.berth b = some y ∧ y.st = .failed ∧ y.park = []) ∧ ∀ e ∈ x.park, e ∉ t.silo.pool) ∧
      (s.siloLog.length < 16 → ∃ e rest, t.siloLog = s.siloLog ++ e :: rest ∧ e.ts = s.now ∧
        e.w2 = w32 (2 ^ 31 + n * 256 + 0xE1) ∧ e.w3 = w32 (fld (fld a.toNat 0 42) 10 32)))

/-! ### Firmware, keys and locks (R391 to R398, R423, R459) -/

/-- The trust operations and locks (R392 to R394, R397, R398, R423, R459): an operation that is accepted runs and its end has
its effect on the copies, keys and fuses; one that is not is TRUST_REJ; the key of TRUST_ARM; the first write of DEBUG_LOCK
locks, a later one is REG_LOCKED, a level below the floor reserved; TAP activity is logged once. -/
def Obligations.TrustOperations : Prop := ∀ (s : State),
  (∀ (c : Instr) (op slot k : Nat),
    (∃ b : Byte, c = .installFw b ∧ op = 1 ∧ slot = b.toNat ∧ k = 0) ∨
    (∃ (b : Byte) (i : BitVec 2), c = .installKey b i ∧ op = 2 ∧ slot = b.toNat ∧ k = i.toNat) ∨
    (∃ i : BitVec 2, c = .revokeKey i ∧ op = 3 ∧ slot = 0 ∧ k = i.toNat) ∨ (c = .raiseSvn ∧ op = 4 ∧ slot = 0 ∧ k = 0) →
    (s.trustOk op slot k = true → ∃ t, exec c s = .next t ∧
      t = { s with regs := t.regs, silo := { s.silo with trustCmd := some (op, slot, k) } } ∧
      getBits (t.reg 0x304) 0 1 = 1 ∧ ∀ k', k' ≠ 0x304 → t.reg k' = s.reg k') ∧
    (s.trustOk op slot k = false → ∃ t, exec c s = .next t ∧
      t = { s with regs := t.regs, out := t.out, siloLog := t.siloLog } ∧ (s.silo.badPages = [] → t.siloLog = s.siloLog) ∧
      getBits (t.reg 0x304) 2 1 = 1 ∧ t.noted 169 ∧ s.regsBut t [0x304, kSilo 0])) ∧
  (∀ op slot k, s.silo.trustCmd = some (op, slot, k) → 1 ≤ op → op ≤ 4 →
    let b := s.slotData (s.slotRec slot)
    let f : Firmware := { version := w32 (fwField b 1), svn := fwField b 2, ok := true }
    ∃ t, exec .trustCmdDone s = .next t ∧ t.silo.trustCmd = none ∧ getBits (t.reg 0x304) 0 1 = 0 ∧
      getBits (t.reg 0x304) 1 1 = 1 ∧ t.noted 169 ∧ t.silo.mem = s.silo.mem ∧ s.regsBut t [0x304, kSilo 0] ∧
      (op = 1 → t.fuses = s.fuses ∧ t.silo.keys = s.silo.keys ∧
        t.silo.fwA = (if s.silo.runB then f else s.silo.fwA) ∧ t.silo.fwB = (if s.silo.runB then s.silo.fwB else f)) ∧
      (op = 2 → tabFind t.fuses.ownerHash k = some (Config.sha384 (s.keyIn slot)) ∧
        (s.siloWritable = true → tabFind t.silo.keys k = some (s.keyIn slot)) ∧
        (s.siloWritable = false → t.silo.keys = s.silo.keys) ∧ t.fuses = { s.fuses with ownerHash := t.fuses.ownerHash }) ∧
      (op = 3 → t.fuses = { s.fuses with revoke := s.fuses.revoke ||| BitVec.ofNat 4 (2 ^ k) }) ∧
      (op = 4 → t.fuses = { s.fuses with svnMin := s.firmware.svn })) ∧
  exec (.trustArmWrite 0x7A57) s = .next { s with silo := { s.silo with trustArm := some s.now } } ∧
  (∀ d, d ≠ 0x7A57 → exec (.trustArmWrite d) s = .next s) ∧
  (∀ rq (d : W32),
    let f := writeForm (s.maskMode 0) false d
    let v := getBits (mergeBits (w32 s.debugLevel) f) 0 2
    let err := fun (t : State) (flag : Nat) => t = { s with regs := t.regs, c64 := t.c64, out := t.out } ∧
      getBits (t.reg 0x404) flag 1 = 1 ∧ t.noted 171 ∧ ∀ k, errKey k = false → t.reg k = s.reg k
    getBits f.2 0 2 ≠ 0 →
    (0x310 ∈ s.locked → ∃ t, exec (.debugLockWrite rq d) s = .next t ∧ err t 2) ∧
    (0x310 ∉ s.locked → v = 3 ∨ v < s.fuses.debugFloor → ∃ t, exec (.debugLockWrite rq d) s = .next t ∧ err t 3) ∧
    (0x310 ∉ s.locked → v ≠ 3 → s.fuses.debugFloor ≤ v → ∃ t, exec (.debugLockWrite rq d) s = .next t ∧
      t = { s with regs := t.regs, locked := 0x310 :: s.locked } ∧ t.debugLevel = v ∧
      ∀ k, k ≠ 0x310 → t.reg k = s.reg k)) ∧
  ((∃ i, i < 8 ∧ (s.pin i).code = 4) → 1 ≤ s.debugLevel → s.board.tapDenied = false →
    exec .tapActivity s =
      .next { s with out := s.out ++ [.logged 0xDE], board := { s.board with tapDenied := true } }) ∧
  (s.debugLevel = 0 ∨ s.board.tapDenied = true → exec .tapActivity s = .next s)

/-! ### The register interface (R411 to R427, R438 to R444) -/

/-- Register accesses (R412, R414, R415, R417, R420, R421, R442, R443): a write by the plain address or a window stores the RW
bits and clears the W1C bits written 1, by the write form of its block; a read answers the register and a read of an _LO
register latches its _HI for the class; an access that names no register is refused by the host port with BUS_ERR. -/
def Obligations.RegisterAccesses : Prop := ∀ (s : State) (rq : Req) (a : Nat),
  (∀ (d : W32) b o r, s.place rq a = .reg b o 0 → a % 4 = 0 → specAt b o = some r → storesPlainly b o = true →
    let f := writeForm (s.maskBlock b) (wholeWord b o r) d
    ∃ t, exec (.regWrite rq a (fullWord d)) s = .next t ∧ t = { s with regs := t.regs } ∧
      (∀ i, i < 32 → (t.reg (keyOf b o)).getLsbD i = writtenBit (s.reg (keyOf b o)) r.rw r.w1c f i) ∧
      ∀ k, k ≠ keyOf b o → t.reg k = s.reg k) ∧
  (∀ (c : Instr) w (d : W32) b o r, (c = .aliasSet rq a d ∧ w = 1) ∨ (c = .aliasClear rq a d ∧ w = 2) ∨
      (c = .aliasToggle rq a d ∧ w = 3) →
    s.place rq (windowAddr a w) = .reg b o w → a % 4 = 0 → specAt b o = some r → storesPlainly b o = true →
    r.rw &&& r.w1c = 0 →
    ∃ t, exec c s = .next t ∧ t = { s with regs := t.regs } ∧ (∀ k, k ≠ keyOf b o → t.reg k = s.reg k) ∧
      ∀ i, i < 32 → let old := (s.reg (keyOf b o)).getLsbD i
        (t.reg (keyOf b o)).getLsbD i = if r.rw.testBit i then
          (if w = 1 then old || d.getLsbD i else if w = 2 then old && !d.getLsbD i else old ^^ d.getLsbD i) else old) ∧
  (∀ b o w, s.place rq a = .reg b o w → a % 4 = 0 →
    let k := keyOf b o
    (latchedLo k = true → ∃ t, exec (.loRead rq a 4) s = .next t ∧ t = { s with latch := t.latch, out := t.out } ∧
      t.latched rq k = hi32 (s.pairView k) ∧ t.out = s.out ++ [.readDone (leBytes 4 (lo32 (s.pairView k)).toNat)] ∧
      ∀ k', k' ≠ latchKey rq k → tabGet t.latch k' 0 = tabGet s.latch k' 0) ∧
    (latchedLo k = false → 4 ≤ k → latchedLo (k - 4) = true →
      exec (.loRead rq a 4) s = .next { s with out := s.out ++ [.readDone (leBytes 4 (s.latched rq (k - 4)).toNat)] }) ∧
    (latchedLo k = false → (4 ≤ k → latchedLo (k - 4) = false) →
      exec (.loRead rq a 4) s = .next { s with out := s.out ++ [.readDone (leBytes 4 (s.view b o).toNat)] }) ∧
    (latchedLo k = true → keyOf b (o + 4) = k + 4 → a % 8 = 0 → ∃ t, exec (.twoDwRead rq a) s = .next t ∧
      t = { s with latch := t.latch, out := t.out } ∧ t.latched rq k = hi32 (s.pairView k) ∧
      t.out = s.out ++
        [.readDone (leBytes 4 (lo32 (s.pairView k)).toNat ++ leBytes 4 (hi32 (s.pairView k)).toNat)])) ∧
  (∀ bytes, inMail a = true → a < 0x1840000 → a % 4 = 0 → bytes.length ≤ 512 → s.fwFault = false →
    ∃ t, exec (.regWrite .host a bytes) s = .next t ∧ t = { s with windows := t.windows } ∧
      (∀ i, i < bytes.length → t.windows.get (a + i) = ((bytes.drop i).headD none).getD (s.windows.get (a + i))) ∧
      ∀ x, x < a ∨ a + bytes.length ≤ x → t.windows.get x = s.windows.get x) ∧
  (∀ d, s.hostPlace a = .nowhere → inMail a = false → inCal a = false → a % 4 = 0 →
    (∃ t, exec (.regWrite .host a (fullWord d)) s = .next t ∧ s.raisesHostErr t 1) ∧
    ∃ t, exec (.loRead .host a 4) s = .next t ∧ s.raisesHostErr t 1) ∧
  (∀ d w, s.place rq a = .nowhere → rq ≠ .host → exec (.regWrite rq a (fullWord d)) s = .next s ∧
    (w = 4 ∨ w = 8 → exec (.loRead rq a w) s = .next { s with out := s.out ++ [.readDone (slice (leBytes 4 0) 0 w)] }))

/-- BLOCK_MODE, notification masks and BAR2 (R17, R18, R106, R110, R123, R391, R397, R412, R413, R419, R424, R426; entry 2 for
bytes that nothing has written, entry 107 for a request that waits for a scrub): the modes allowed, the vector that unmasking
raises, and the bytes that a BAR2 request reads or writes, after the scrub of an apron in SCRUB, or the error it is refused with;
one without a way over the mesh changes nothing. -/
def Obligations.ModesMasksAndBar2 : Prop := ∀ (s : State),
  (s.fwFault = false → ∀ d : W32,
    let v := getBits (mergeBits (s.reg 0x400) (writeForm (s.maskMode 0) false d)) 0 11
    (s.noChart = false → ∃ t, exec (.blockModeWrite d) s = .next t ∧ s.raisesHostErr t 4) ∧
    (s.noChart = true → blockModeOk v = false → ∃ t, exec (.blockModeWrite d) s = .next t ∧ s.raisesHostErr t 3) ∧
    (s.noChart = true → blockModeOk v = true → ∃ t, exec (.blockModeWrite d) s = .next t ∧ t = { s with regs := t.regs } ∧
      getBits (t.reg 0x400) 0 11 = v ∧ ∀ k, k ≠ 0x400 → t.reg k = s.reg k)) ∧
  (s.fwFault = false → ∀ (w : Nat) (d : W32), w < 16 →
    let v := getBits (mergeBits (s.reg (kNoteMask w)) (writeForm (s.maskMode 0) false d)) 0 16
    ∃ t, exec (.noteMaskWrite w d) s = .next t ∧ t = { s with regs := t.regs, out := t.out } ∧
      getBits (t.reg (kNoteMask w)) 0 16 = v ∧ (∀ k, k ≠ kNoteMask w → noteKey k = false → t.reg k = s.reg k) ∧
      (getBits (s.reg (kNoteStat w)) 0 16 = 0 → t.out = s.out ∧ ∀ k, k ≠ kNoteMask w → t.reg k = s.reg k) ∧
      (∀ i, i < 16 → getBits (s.reg (kNoteStat w)) 0 16 = 2 ^ i → getBits (s.reg (kNoteMask w)) i 1 = 1 →
        getBits v i 1 = 0 → s.board.msixOn = true →
        let n := getBits (s.reg (kNoteVec (16 * w + i))) 0 11
        (getBits (s.reg (0x80000 + 16 * n + 12)) 0 1 = 0 →
          t.out = s.out ++ [.msix n (s.pair (0x80000 + 16 * n)) (s.reg (0x80000 + 16 * n + 8))]) ∧
        (getBits (s.reg (0x80000 + 16 * n + 12)) 0 1 = 1 →
          t.out = s.out ∧ getBits (t.reg (0x90000 + 4 * (n / 32))) (n % 32) 1 = 1))) ∧
  (∀ p, let s' := awaitScrub p (meshAdapt true hostRouter (saQuay p) s)
    (s.fabric.adaptMesh = false → saSpace p ≠ 0 ∨ (s.quay (saQuay p)).st ≠ .scrub → s' = s) ∧
    (saSpace p = 0 → (s.quay (saQuay p)).st = .scrub → (s'.quay (saQuay p)).st = .idle ∧
      s'.stack.mem = s.stack.mem.clear (stackAddr (saQuay p) 0 0) 0x60000)) ∧
  (∀ a n,
    (∀ p, s.bar2Check a n 4096 = none → s.bar2Place a n = some p →
      (s.routable hostRouter (saQuay p) = false → exec (.bar2Read a n) s = .next s) ∧
      (s.routable hostRouter (saQuay p) = true → s.stack.ecc = [] →
        let s' := awaitScrub p (meshAdapt true hostRouter (saQuay p) s)
        exec (.bar2Read a n) s = .next { s' with out := s.out ++ [.readDone (s'.stack.mem.read p n)] })) ∧
    (∀ code, s.bar2Check a n 4096 = some code →
      ∃ t, exec (.bar2Read a n) s = .next t ∧ s.raisesHostErr t 1 ∧ .abort ∈ t.out)) ∧
  (∀ a (bytes : List (Option Byte)),
    (∀ p, s.bar2Check a bytes.length 512 = none → s.bar2Place a bytes.length = some p →
      (s.routable hostRouter (saQuay p) = false → exec (.bar2Write a bytes) s = .next s) ∧
      (s.routable hostRouter (saQuay p) = true → s.stack.ecc = [] →
        let s' := awaitScrub p (meshAdapt true hostRouter (saQuay p) s)
        ∃ t, exec (.bar2Write a bytes) s = .next t ∧ t = { s' with stack := { s'.stack with mem := t.stack.mem } } ∧
          (∀ i, i < bytes.length →
            t.stack.mem.get (p + i) = ((bytes.drop i).headD none).getD (s'.stack.mem.get (p + i))) ∧
          ∀ x, x < p ∨ p + bytes.length ≤ x → t.stack.mem.get x = s'.stack.mem.get x)) ∧
    (∀ code, s.bar2Check a bytes.length 512 = some code →
      ∃ t, exec (.bar2Write a bytes) s = .next t ∧ s.raisesHostErr t 1 ∧ .aer ∈ t.out))

/-! ### The host DMA engine and the trace (R428 to R435, R439, R445) -/

/-- Control of a DMA channel and of the trace (R428, R433, R435, R439, R445): EN, ABORT, SKIP and RESTART, TAIL, what an FLR
resets, and TRACE_CTRL.EN. -/
def Obligations.DmaControl : Prop := ∀ (s : State) (c : Nat), c < 16 →
  let st := dkey c 4
  let chans := fun (t : State) => t = { s with regs := t.regs, chans := t.chans } ∧ ∀ c', c' ≠ c → t.chan c' = s.chan c'
  let regs := fun (t : State) (ks : List Nat) => ∀ k, k ∉ ks → t.reg k = s.reg k
  (∀ cmd ∈ ([.dmaEnWrite c true, .dmaEnWrite c false, .dmaAbort c, .dmaSkip c, .dmaRestart c] : List Instr), 12 ≤ c →
    exec cmd s = .next s) ∧
  (∀ en : Bool, c < 12 → ∃ t, exec (.dmaEnWrite c en) s = .next t ∧ t = { s with regs := t.regs } ∧ t.dmaEn c = en ∧
    regs t [dkey c 0, st] ∧ (s.dmaState c = 0 → t.dmaState c = bit en) ∧
    (s.dmaState c = 1 → t.dmaState c = if en = false ∧ (s.chan c).busy = false then 0 else 1) ∧
    (2 ≤ s.dmaState c → t.reg st = s.reg st)) ∧
  (c < 12 → ∃ t, exec (.dmaAbort c) s = .next t ∧ chans t ∧ regs t [dkey c 0, st] ∧
    (s.dmaState c = 2 → t.dmaState c = 2 ∧ t.dmaEn c = false ∧ t.chan c = s.chan c) ∧
    (s.dmaState c ≠ 2 → (s.chan c).xfer ≠ none → t.dmaState c = 3 ∧ t.chan c = s.chan c) ∧
    (s.dmaState c ≠ 2 → (s.chan c).xfer = none → t.dmaState c = 0 ∧ t.dmaEn c = false ∧ t.chan c = Chan.init ∧
      t.dmaLevel c = 0)) ∧
  (∀ cmd skip, (cmd = Instr.dmaSkip c ∧ skip = 1) ∨ (cmd = Instr.dmaRestart c ∧ skip = 0) → c < 12 →
    s.dmaState c = 2 → ∃ t, exec cmd s = .next t ∧ chans t ∧ regs t [dkey c 0, st, dkey c 0x18] ∧
      t.dmaState c = bit (s.dmaEn c) ∧ t.dmaEn c = s.dmaEn c ∧ t.dmaLevel c = 0 ∧ t.chan c = Chan.init ∧
      t.dmaHead c = (s.dmaHead c + skip) % 65536) ∧
  (∀ d : W32,
    let v := getBits (mergeBits (s.reg (dkey c 0x14)) (writeForm (s.maskMode 0) false d)) 0 16
    let n := (v + 65536 - s.dmaHead c) % 65536
    (12 ≤ c → exec (.dmaTailWrite c d) s = .next s) ∧
    (c < 12 → n ≤ s.ringEntries c → ∃ t, exec (.dmaTailWrite c d) s = .next t ∧ t = { s with regs := t.regs } ∧
      t.dmaTail c = v ∧ regs t [dkey c 0x14]) ∧
    (c < 12 → s.ringEntries c < n → ∃ t, exec (.dmaTailWrite c d) s = .next t ∧ s.raisesHostErr t 3)) ∧
  (∃ t, exec .flr s = .next t ∧
    t = { s with regs := t.regs, c64 := t.c64, chans := t.chans, board := { s.board with msixOn := false } } ∧
    (∀ n, n < 16 → t.chan n = if n < 12 then Chan.init else s.chan n) ∧
    (∀ w, w < 16 → t.reg (kNoteMask w) = 0xFFFF ∧ t.reg (kNoteStat w) = s.reg (kNoteStat w)) ∧
    (∀ i, i < 256 → t.reg (kNoteVec i) = w32 i) ∧ t.reg 0x404 = 0 ∧
    (∀ v i, v < 2048 → i < 4 → t.reg (0x80000 + 16 * v + 4 * i) = if i = 3 then 1 else 0) ∧
    ∀ k, 0x100000 ≤ k → t.reg k = s.reg k) ∧
  (∀ en : Bool, ∃ t, exec (.traceEnWrite en) s = .next t ∧ t = { s with regs := t.regs } ∧
    getBits (t.reg (kTrace 0)) 0 1 = bit en ∧ (en = true → getBits (t.reg (kTrace 5)) 0 16 = 0 ∧ getBits (t.reg (kTrace 6)) 0 16 = 0) ∧
    regs t [kTrace 0, kTrace 5, kTrace 6])

/-- Descriptors and transfers (R17, R18, R110, R123, R210, R314, R412, R428 to R434, R439; entry 107 for an apron in SCRUB): a
descriptor that cannot be read, or whose fields are out of order, ends the channel in ERROR; an XFER moves its bytes and no
others, or none and never ends where no way over the mesh joins host DMA and its target; CALL, JUMP and END follow the chain; the
end of a transfer, which waits out a slack-water sync, counts and at level 0 ends its ring entry. -/
def Obligations.DmaDescriptors : Prop := ∀ (s : State) (c : Nat) (d : List Byte),
  let x := s.chan c
  let after := fun (t : State) (y : Chan) => t.chan c = y ∧ ∀ c', c' ≠ c → t.chan c' = s.chan c'
  let running := { x with busy := true, ran := x.ran + 1, next := s.dmaAddr c }
  (∀ (cmd : HostRead → Instr) (ty : Nat), ((∃ data, cmd = fun h => .descXfer c h data) ∧ ty = 1) ∨
      (cmd = .descCall c ∧ ty = 2) ∨ (cmd = .descJump c ∧ ty = 3) ∨ (cmd = .descEnd c ∧ ty = 4) →
    c < 16 → s.dmaReady c = true →
    (∃ t, exec (cmd none) s = .next t ∧ s.dmaFails t c 0xC3 ∧ t.stack = s.stack) ∧
    (∀ code, dType d = ty ∨ (ty = 1 ∧ (dType d = 0 ∨ 4 < dType d)) → x.ran < 65536 → dCheck d (s.dmaLevel c) = some code →
      ∃ t, exec (cmd (some d)) s = .next t ∧ s.dmaFails t c code ∧ t.stack = s.stack)) ∧
  (∀ code data, s.dmaTakes c d 1 → s.dmaTarget d = some code → ∃ t, exec (.descXfer c (some d) data) s = .next t ∧
    getBits (t.reg (dkey c 4)) 0 3 = 2 ∧ getBits (t.reg (dkey c 4)) 24 8 = code ∧ t.stack = s.stack ∧ t.silo = s.silo ∧
    t.chartBuf = s.chartBuf) ∧
  (∀ bs : List Byte, s.dmaTakes c d 1 → s.dmaTarget d = none →
    let moving := fun (w : Option (Nat × Nat × Nat)) =>
      { running with xfer := some (dIrq d, w32 (dUser d)), moving := w, next := s.dmaAddr c + 64 }
    let dest := some (dTgt d, s.dmaPlace d, dLen d)
    let s' := dmaMesh d s
    let n := dLen d
    let p := s.dmaPlace d
    let q := fld (dTaddr d) 0 8
    let at' := saQuay p
    let scrubs := dTgt d = 0 ∧ saSpace p = 0 ∧ (s.quay at').st = .scrub
    (s.fabric.adaptMesh = false → s' = s) ∧
    (∀ r data, dmaRouter d = some r → s.routable hostRouter r = false →
      ∃ t, exec (.descXfer c (some d) data) s = .next t ∧ t = { s with chans := t.chans } ∧
        after t { moving none with lost := true }) ∧
    ((∀ r, dmaRouter d = some r → s.routable hostRouter r = true) →
    (scrubs → s.stack.ecc = [] → n ≤ bs.length → ∃ t, exec (.descXfer c (some d) (some bs)) s = .next t ∧
      (t.quay at').st = .idle ∧
      let m := s.stack.mem.clear (stackAddr at' 0 0) 0x60000
      (dOut d = false → t.stack.mem = m.write p (bs.take n) ∧ t.out = s.out ∧ after t (moving dest)) ∧
      (dOut d = true → t.stack.mem = m ∧ t.out = s.out ++ [.hostWrite (w64 (dHaddr d)) (m.read p n)] ∧
        after t (moving none))) ∧
    (dOut d = false → dLen d ≤ bs.length →
      (dTgt d = 0 → s.stack.ecc = [] → ¬ scrubs → ∃ t, exec (.descXfer c (some d) (some bs)) s = .next t ∧
        t = { s' with chans := t.chans, stack := { s.stack with mem := s.stack.mem.write p (bs.take n) } } ∧
        after t (moving dest)) ∧
      (dTgt d = 1 → ∃ t, exec (.descXfer c (some d) (some bs)) s = .next t ∧ t.stack.mem = s.stack.mem ∧
        after t (moving dest) ∧
        ((s.quay q).st.isStopped = true → t.regs = s.regs ∧
          t.stack.logbook = s.stack.logbook.write (logAddr q p) (bs.take n)) ∧
        ((s.quay q).st.isStopped = false → t.stack = s.stack ∧ t.reg (qkey q 0x10) = s.reg (qkey q 0x10) ||| 2 ∧
          ∀ k, k ≠ qkey q 0x10 → t.reg k = s.reg k)) ∧
      (dTgt d = 2 → s.bufBusy (fld (dTaddr d) 24 1 = 1) = false → ∃ t, exec (.descXfer c (some d) (some bs)) s = .next t ∧
        t = { s' with chans := t.chans, chartBuf := s.chartBuf.write p (bs.take n) } ∧ after t (moving dest)) ∧
      (dTgt d = 2 → s.bufBusy (fld (dTaddr d) 24 1 = 1) = true → ∃ t, exec (.descXfer c (some d) (some bs)) s = .next t ∧
        t = { s' with regs := t.regs, chans := t.chans } ∧ t.reg (kChart 4) = s.reg (kChart 4) ||| 0x4000 ∧
        (∀ k, k ≠ kChart 4 → t.reg k = s.reg k) ∧ after t (moving dest)) ∧
      (dTgt d = 3 → ∃ t, exec (.descXfer c (some d) (some bs)) s = .next t ∧
        t.silo = { s.silo with mem := s.silo.mem.write p (bs.take n), badPages := t.silo.badPages } ∧
        (∀ a, a ∈ t.silo.badPages ↔ a ∈ s.silo.badPages ∧ ¬ (p ≤ a ∧ a + 4096 ≤ p + n)) ∧ t.stack = s.stack ∧
        after t (moving dest) ∧ s.regsBut t [kSilo 0])) ∧
    (∀ m : Mem, dOut d = true → (dTgt d = 0 ∧ s.stack.ecc = [] ∧ ¬ scrubs ∧ m = s.stack.mem) ∨
        (dTgt d = 2 ∧ m = s.chartBuf) ∨ (dTgt d = 3 ∧ s.badPage p n = false ∧ m = s.silo.mem) →
      ∃ t, exec (.descXfer c (some d) (some bs)) s = .next t ∧
        t = { s' with chans := t.chans, out := s.out ++ [.hostWrite (w64 (dHaddr d)) (m.read p n)] } ∧
        after t (moving none)))) ∧
  (s.dmaTakes c d 2 → ∃ t, exec (.descCall c (some d)) s = .next t ∧ t = { s with regs := t.regs, chans := t.chans } ∧
    t.dmaLevel c = s.dmaLevel c + 1 ∧ (∀ k, k ≠ dkey c 4 → t.reg k = s.reg k) ∧
    after t { running with stack := (s.dmaAddr c + 64) :: x.stack, calls := (dIrq d, w32 (dUser d)) :: x.calls,
                           next := w64 (dHaddr d) }) ∧
  (s.dmaTakes c d 3 → dIrq d = false → ∃ t, exec (.descJump c (some d)) s = .next t ∧ t = { s with chans := t.chans } ∧
    after t { running with next := w64 (dHaddr d) }) ∧
  (∀ ret rets user calls, s.dmaTakes c d 4 → dIrq d = false → x.stack = ret :: rets → x.calls = (false, user) :: calls →
    rets.length < 8 → ∃ t, exec (.descEnd c (some d)) s = .next t ∧ t = { s with regs := t.regs, chans := t.chans } ∧
      t.dmaLevel c = rets.length ∧
      (rets ≠ [] → after t { running with stack := rets, calls := calls, next := ret } ∧ t.dmaHead c = s.dmaHead c) ∧
      (rets = [] → after t Chan.init ∧ t.dmaHead c = (s.dmaHead c + 1) % 65536 ∧ t.dmaState c = bit (s.dmaEn c))) ∧
  (c < 16 → x.lost = true ∨ s.fabric.sws ≠ .off → exec (.xferComplete c) s = .next s) ∧
  (∀ user, c < 16 → x.xfer = some (false, user) → x.lost = false → s.fabric.sws = .off → s.dmaState c = 1 → ∃ t, exec (.xferComplete c) s = .next t ∧
    t = { s with regs := t.regs, chans := t.chans } ∧ t.reg (dkey c 0x2C) = s.reg (dkey c 0x2C) + 1 ∧
    (s.dmaLevel c ≠ 0 → after t { x with xfer := none, moving := none } ∧ t.dmaHead c = s.dmaHead c) ∧
    (s.dmaLevel c = 0 → after t Chan.init ∧ t.dmaHead c = (s.dmaHead c + 1) % 65536 ∧ t.dmaState c = bit (s.dmaEn c))) ∧
  (∀ user, c < 16 → x.xfer = some (false, user) → x.lost = false → s.fabric.sws = .off → s.dmaState c = 3 → ∃ t, exec (.xferComplete c) s = .next t ∧
    t = { s with regs := t.regs, chans := t.chans } ∧ t.reg (dkey c 0x2C) = s.reg (dkey c 0x2C) + 1 ∧ after t Chan.init ∧
    t.dmaState c = 0 ∧ t.dmaEn c = false ∧ t.dmaLevel c = 0)

/-! ### The board (R345, R373, R393, R448 to R460) -/

/-- Power, resets and the link (R125, R350, R351, R370, R373, R393, R408, R409, R441, R447, R451 to R455; entry 2 for memory after
a power loss, entry 27 for what the checks of a boot find, entry 35 for MSI-X): what each reset puts at its reset value, what it
keeps, what RESET_CAUSE shows, and how the boot ends: the records that are in force, the spares that stand in for unusable quays,
and the firmware that runs. -/
def Obligations.PowerAndResets : Prop := ∀ (s : State),
  let record := [kBw 0x28, kBw 0x24, kSilo 0x50, kSilo 0]
  let fresh := fun (t : State) => (∀ k, keptKey k = false → k ∉ record → t.reg k = resetOf k) ∧ t.quays = [] ∧
    t.ports = [] ∧ t.chans = [] ∧ t.locked = [] ∧ t.latch = [] ∧ t.qen = s.silo.savedQen ∧ t.fuses = s.fuses ∧
    t.power.st = .a0 ∧ t.board.booted = false ∧ t.pending = s.pending ∧ t.out = s.out ∧ t.silo.slots = s.silo.slots
  let aon := fun (t : State) => (∀ o, o < 0x10000 → o ≠ 4 → t.reg (kAon o) = s.reg (kAon o)) ∧ t.wakeLog = s.wakeLog
  let cause := fun (t : State) (b : W32) => t.reg 0x14 = if s.board.inReset = true then s.reg 0x14 else b
  let code := fun (t : State) (n : Nat) => .logged n ∈ t.out
  let kept := fun (t : State) => t.stack.mem = s.stack.mem ∧ t.stack.logbook = s.stack.logbook ∧
    t.stack.repairs = s.stack.repairs ∧ t.chartBuf = s.chartBuf ∧ t.silo.mem = s.silo.mem
  (∃ t, exec .powerOn s = .next t ∧ fresh t ∧ t.reg 0x14 = 1 ∧ t.stack = Stack.init ∧ t.chartBuf = [] ∧ t.wakeLog = [] ∧
    t.silo.mem = s.silo.mem ∧ t.board.perst = true ∧ t.board.pwrGood = s.board.pwrEn ∧
    ∀ o, o < 0x10000 → t.reg (kAon o) = resetOf (kAon o)) ∧
  (s.board.pwrEn = true → exec .pwrEnRise s = .next s) ∧
  (s.board.pwrEn = false → exec .pwrEnFall s = .next s ∧ ∃ t, exec .pwrEnRise s = .next t ∧ fresh t ∧ aon t ∧ cause t 1 ∧
    kept t ∧ t.board.pwrEn = true ∧ t.board.pwrGood = true ∧ t.board.inReset = true) ∧
  (s.board.pwrEn = true → ∃ t, exec .pwrEnFall s = .next t ∧ fresh { t with out := s.out } ∧ aon t ∧ t.reg 0x14 = s.reg 0x14 ∧
    t.stack = Stack.init ∧ t.chartBuf = [] ∧ t.board.pwrEn = false ∧ t.board.pwrGood = false ∧
    (∃ l, t.silo.lost = some l ∧ ∀ n ∈ s.openSlots, n ∈ l) ∧
    ((∀ c, c < 16 → (s.chan c).moving = none) → t.silo.mem = s.silo.mem)) ∧
  (∃ t, exec .powerLoss s = .next t ∧ fresh { t with out := s.out } ∧ t.stack = Stack.init ∧ t.chartBuf = [] ∧
    t.wakeLog = [] ∧ t.board.pins = [] ∧ (∀ o, o < 0x10000 → t.reg (kAon o) = resetOf (kAon o)) ∧
    ((∀ c, c < 16 → (s.chan c).moving = none) → t.silo.mem = s.silo.mem)) ∧
  (s.perstIgnored = true ∨ s.board.pwrGood = false →
    exec .perst s = .next { s with board := { s.board with perst := true } }) ∧
  (s.perstIgnored = false → s.board.pwrGood = true → ∃ t, exec .perst s = .next t ∧ fresh t ∧ aon t ∧ cause t 2 ∧ kept t ∧
    t.board.perst = true ∧ t.board.inReset = true) ∧
  exec .perstDeassert s = .next { s with board := { s.board with perst := false } } ∧
  (∃ t, exec (.smbusReset 0xA5) s = .next t ∧ fresh t ∧ aon t ∧ cause t 4 ∧ kept t ∧ t.board.inReset = true) ∧
  (∀ b, b ≠ 0xA5 → exec (.smbusReset b) s = .next { s with out := s.out ++ [.smbNack] }) ∧
  (∀ rate width, s.board.perst = false → ∃ t, exec (.pcieLinkTrained rate width) s = .next t ∧
    t = { s with regs := t.regs, out := t.out, free := t.free, board := { s.board with msixOn := true } } ∧
    getBits (t.reg 0x418) 8 4 = rate.toNat ∧ getBits (t.reg 0x418) 0 5 = width.toNat ∧
    (rate = 6 → getBits (t.reg 0x418) 12 1 = 1) ∧ s.regsBut t [0x418] ∧
    (rate.toNat < 6 ∨ width.toNat < 16 → getBits (t.reg 0x418) 13 1 = 1 ∧ t.noted 171) ∧
    (6 ≤ rate.toNat → 16 ≤ width.toNat → t.out = s.out ∧ getBits (t.reg 0x418) 13 1 = getBits (s.reg 0x418) 13 1)) ∧
  (s.board.inReset = true → s.board.perst = false → s.board.pwrGood = true →
    let f := Config.bootFinds s.free
    let bad := f.colBad ||| f.testBad
    let qen := if f.mapBad then BitVec.ofNat 144 (2 ^ s.fuses.grade - 1) else s.silo.savedQen
    let spare := if f.mapBad then ~~~(BitVec.ofNat 144 (2 ^ s.fuses.grade - 1)) else s.silo.savedQspare
    ∃ t, exec .bootRestoreDone s = .next t ∧ t.board = { s.board with booted := true, inReset := false } ∧
      t.stack = { s.stack with repairs := s.silo.savedRepairs.filter (fun r => !f.colBad.getLsbD r.quay) } ∧
      getBits (t.reg (kSilo 0)) 0 1 = 1 ∧ t.silo.lost = none ∧ t.distValid = false ∧
      (t.qen, t.qspare) = bootMap bad qen spare ∧ (bad = 0 → t.qen = qen ∧ t.qspare = spare) ∧
      (∀ q, q < 144 → bad.getLsbD q = true → t.qen.getLsbD q = false ∧ t.qspare.getLsbD q = false) ∧
      (t.rbad = if f.mapBad then 0 else s.silo.savedRbad) ∧ (t.pbad = if f.mapBad then 0 else s.silo.savedPbad) ∧
      t.silo.savedQen = qen ∧ t.silo.savedQspare = spare ∧ t.silo.slots = (if f.slotsBad then [] else s.silo.slots) ∧
      (f.colBad ≠ 0 → code t 0x77) ∧
      (f.mapBad = true ∨ f.slotsBad = true → s.siloLog.length < 16 →
        ∃ e ∈ t.siloLog, e.w2 = w32 (2 ^ 31 + 255 * 256 + 0xE6)) ∧
      (s.mayRun s.silo.fwA = false → s.mayRun s.silo.fwB = false → t.fwFault = true ∧ t.noted 173) ∧
      (s.mayRun s.silo.fwA = true → s.mayRun s.silo.fwB = true →
        t.silo.runB = decide (s.silo.fwA.version.toNat < s.silo.fwB.version.toNat)) ∧
      (s.mayRun s.silo.fwA = true → s.mayRun s.silo.fwB = false → t.silo.runB = false ∧ t.noted 169) ∧
      (s.mayRun s.silo.fwA = false → s.mayRun s.silo.fwB = true → t.silo.runB = true ∧ t.noted 169)) ∧
  (∃ t, exec .refclkLoss s = .next t ∧ t.pending = s.pending ∧ t.out = s.out ∧ t.memOk = true ∧ t.logsOk = true)

/-- The SMBus port and the bollard pins (R443, R457 to R460; entry 3 for levels that the board drives): register reads and
writes of the always-on block, pin functions and their parking, levels, and the strobe stamp. -/
def Obligations.SmbusAndPins : Prop := ∀ (s : State),
  (∀ (ofs : W16) b o w, s.place .smbus (smbAddr ofs) = .reg b o w → latchedLo (keyOf b o) = false →
    (4 ≤ keyOf b o → latchedLo (keyOf b o - 4) = false) →
    exec (.readReg ofs) s = .next { s with out := s.out ++ [.readDone (leBytes 4 (s.view b o).toNat)] }) ∧
  (∀ ofs : W16, exec (.readReg ofs) s = exec (.loRead .smbus (smbAddr ofs) 4) s) ∧
  (∀ (ofs : W16) (d : W32) b o r, s.place .smbus (smbAddr ofs - smbAddr ofs % 4) = .reg b o 0 → specAt b o = some r →
    storesPlainly b o = true →
    let f := writeForm (s.maskBlock b) (wholeWord b o r) d
    ∃ t, exec (.writeReg ofs d) s = .next t ∧ t = { s with regs := t.regs } ∧
      (∀ i, i < 32 → (t.reg (keyOf b o)).getLsbD i = writtenBit (s.reg (keyOf b o)) r.rw r.w1c f i) ∧
      ∀ k, k ≠ keyOf b o → t.reg k = s.reg k) ∧
  (∀ pin fn : Byte,
    let x := s.pin pin.toNat
    let ok : Bool := decide (pin.toNat < 8) && pinAllows pin.toNat fn.toNat
    let pins := fun (t : State) (y : Pin) => t = { s with board := { s.board with pins := t.board.pins } } ∧
      t.pin pin.toNat = y ∧ ∀ i, i ≠ pin.toNat → t.pin i = s.pin i
    (ok = false → exec (.pinCfg pin fn) s = .next { s with out := s.out ++ [.smbNack] }) ∧
    (ok = true → x.next = none → x.fn = fn.toNat → exec (.pinCfg pin fn) s = .next s) ∧
    (ok = true → x.next = none → x.fn ≠ fn.toNat → ∃ t, exec (.pinCfg pin fn) s = .next t ∧
      pins t { x with fn := 0, next := some (fn.toNat, s.aclkNext + 40) }) ∧
    (∀ f e, ok = true → x.next = some (f, e) → ∃ t, exec (.pinCfg pin fn) s = .next t ∧
      pins t { x with next := some (fn.toNat, e) })) ∧
  (∀ i f e, i < 8 → (s.pin i).next = some (f, e) → ∃ t, exec (.pinParkEnd i) s = .next t ∧
    t = { s.passTo e with board := { s.board with pins := t.board.pins } } ∧
    t.pin i = { s.pin i with fn := f, next := none } ∧ ∀ j, j ≠ i → t.pin j = s.pin j) ∧
  (∃ levels active : Byte, exec .pinGet s = .next { s with
      free := s.free + 8, out := s.out ++ [.readDone ((List.range 8).map (fun i => BitVec.ofNat 8 (s.pin i).code) ++ [levels, active])] } ∧
    (∀ i, i < 8 → active.getLsbD i = s.pinActive i) ∧
    ∀ i, i < 8 → (s.pin i).fn = 2 → s.pinActive i = true → levels.getLsbD i = (s.pin i).out) ∧
  (∀ mask level : Byte, ∃ t, exec (.gpioSet mask level) s = .next t ∧
    t = { s with board := { s.board with pins := t.board.pins } } ∧
    ∀ i, i < 8 → t.pin i = if mask.getLsbD i = true ∧ (s.pin i).code = 2 then { s.pin i with out := level.getLsbD i }
      else s.pin i) ∧
  exec .strobeTs s = .next { s with out := s.out ++ [.readDone (leBytes 8 s.board.strobe.toNat)] } ∧
  (∀ i, i < 8 →
    ((s.pin i).fn = 7 → s.pinActive i = true → exec (.strobeInEdge i) s =
      .next { s with board := { s.board with strobe := s.aclkStart } }) ∧
    ((s.pin i).fn ≠ 7 ∨ s.pinActive i = false → exec (.strobeInEdge i) s = .next s))

/-! ### The whole module -/

/-- Notifications and traces (R425 to R427, R445): an occurring source shows its status bit and, where its mask is
clear and the bit was, raises its vector; a trace record of 32 bytes goes to the ring's next entry. -/
def Obligations.NotificationsAndTraces : Prop := ∀ (s : State),
  (∀ i, i < 256 → (s.note i).noted i ∧ s.note i = { s with regs := (s.note i).regs, out := (s.note i).out } ∧
    (∀ k, noteKey k = false → (s.note i).reg k = s.reg k) ∧
    (∀ j, j < 256 → j ≠ i → getBits ((s.note i).reg (kNoteStat (j / 16))) (j % 16) 1 =
      getBits (s.reg (kNoteStat (j / 16))) (j % 16) 1) ∧
    (let n := getBits (s.reg (kNoteVec i)) 0 11
     getBits (s.reg (kNoteMask (i / 16))) (i % 16) 1 = 0 → getBits (s.reg (kNoteStat (i / 16))) (i % 16) 1 = 0 →
     s.board.msixOn = true → getBits (s.reg (0x80000 + 16 * n + 12)) 0 1 = 0 →
       (s.note i).out = s.out ++ [.msix n (s.pair (0x80000 + 16 * n)) (s.reg (0x80000 + 16 * n + 8))]) ∧
    (getBits (s.reg (kNoteMask (i / 16))) (i % 16) 1 = 1 ∨ getBits (s.reg (kNoteStat (i / 16))) (i % 16) 1 = 1 →
      (s.note i).out = s.out)) ∧
  (∀ src code unit pl, src < 24 →
    let t := s.trace src code unit pl
    t = { s with regs := t.regs, out := t.out } ∧ (∀ k, traceKey k = false → t.reg k = s.reg k) ∧
    (getBits (s.reg (kTrace 0)) 0 1 = 0 ∨ getBits (s.reg (kTrace 0)) (8 + src) 1 = 0 → t = s) ∧
    (getBits (s.reg (kTrace 0)) 0 1 = 1 → getBits (s.reg (kTrace 0)) (8 + src) 1 = 1 →
      (s.traceFull = false → ∃ a bs, t.out = s.out ++ [.hostWrite a bs] ∧ bs.length = 32 ∧ bs.take 8 = leBytes 8 s.now.toNat) ∧
      (s.traceFull = true → t.out = s.out ∧ t.reg (kTrace 7) = s.reg (kTrace 7) + 1 ∧ getBits (t.reg (kTrace 1)) 1 1 = 1)))

/-- HOST_ERR (R424): the first error after VALID was last cleared is captured with its code, its address, the class of its
requester (SRC 1 for a pilot) and the stamp of the time base; a later one sets its own flag and OVF and is not captured. -/
def Obligations.FirstErrorIsCaptured : Prop := ∀ (s : State) (rq : Req) (code bar a : Nat),
  code ∈ [0xC0, 0xC1, 0xC2, 0xC8, 0xC9, 0xCA] → bar < 2 → rq ≠ .smbus →
  let t := s.hostErr rq code bar a
  s.raisesHostErr t (errFlag code) ∧
  (getBits (s.reg 0x404) 0 1 = 0 → getBits (t.reg 0x404) 0 1 = 1 ∧ getBits (t.reg 0x404) 24 8 = code ∧
    t.reg 0x408 = w32 a ∧ getBits (t.reg 0x40C) 0 4 = fld a 32 4 ∧ getBits (t.reg 0x40C) 8 1 = bar ∧
    getBits (t.reg 0x40C) 9 1 = (if rq = .host then 0 else 1) ∧ t.cnt64 0x410 = s.now) ∧
  (getBits (s.reg 0x404) 0 1 = 1 → getBits (t.reg 0x404) 0 1 = 1 ∧ getBits (t.reg 0x404) 5 1 = 1 ∧
    getBits (t.reg 0x404) 24 8 = getBits (s.reg 0x404) 24 8 ∧ t.reg 0x408 = s.reg 0x408 ∧ t.reg 0x40C = s.reg 0x40C ∧
    t.c64 = s.c64)

/-- One step (entry 1 for the idle step, 15 for the flits that leave in it, 61 for the bits that fail): the command at the front
of the queue is carried out on the state with the queue's rest; with no command waiting one tclk passes: TB_NOW advances by 1 ns
where no load falls in it, under the shadow by 10 in every tenth, what waits on links that are UP leaves, and nothing but the clocks
and what waits for them changes, but for words and pages that the free bit errors mark. -/
def Obligations.StepRunsFrontCommand : Prop :=
  (∀ (c : Instr) (rest : List Instr) (s : State), s.pending = c :: rest → step s = exec c { s with pending := rest }) ∧
  (∀ (s : State), s.pending = [] → ∃ t, step s = .next t ∧
    t = { s with regs := t.regs, c64 := t.c64, time := t.time, quays := t.quays, ports := t.ports, out := t.out,
                 free := s.free + 1, stack := { s.stack with ecc := t.stack.ecc },
                 silo := { s.silo with badPages := t.silo.badPages } } ∧
    (s.time.loadAt = none → s.shadowed = false → t.now = s.now + 1) ∧
    (s.shadowed = true → t.now = if s.time.shadow = 9 then s.now + 10 else if s.time.shadow < 9 then s.now else t.now) ∧
    ((s.pass 1).linksUp = [] → t.ports = s.ports ∧ t.out = s.out) ∧
    (∀ k, (∀ q j n c v, (s.quay q).ve = some j → j.scan = some (n, c, v) → k ≠ kCnt q c) → t.reg k = s.reg k) ∧
    ∀ p ∈ s.silo.badPages, p ∈ t.silo.badPages)

/-- The state right after reset (R216, R229, R238, R264, R286, R349, R355, R441, R452, R453): the values that the spec gives;
registers for which it gives none have the model's choice of entry 4, and the MSI-X vectors that of entry 7. -/
def Obligations.ResetState : Prop :=
  State.reset.pending = [] ∧ State.reset.reg 0x14 = 1 ∧ (∀ k, k ≠ 0x14 → State.reset.reg k = resetOf k) ∧
  State.reset.reg (kFab 0) = 1 ∧ State.reset.reg 0x400 = 0x50 ∧ State.reset.reg (kAon 8) = 0x300 ∧
  (∀ w, w < 16 → State.reset.reg (kNoteMask w) = 0xFFFF) ∧ (∀ i, i < 256 → State.reset.reg (kNoteVec i) = w32 i) ∧
  State.reset.chartState = 0 ∧ State.reset.tbState = 0 ∧ State.reset.now = 0 ∧ State.reset.power.st = .a0 ∧
  (∀ q, (State.reset.quay q).st = .idle ∧ (State.reset.quay q).pc = 0 ∧ (State.reset.quay q).sb = []) ∧
  (∀ p, (State.reset.port p).st = .off) ∧ (∀ c, State.reset.chan c = Chan.init) ∧ State.reset.serve.berths = [] ∧
  State.reset.memOk = true ∧ State.reset.logsOk = true ∧ State.reset.batchesOk = true

/-- Every step keeps the memories of the module in canonical form, whatever command it runs. -/
def Obligations.StepKeepsMemories : Prop := ∀ (s t : State), s.memOk = true → step s = .next t → t.memOk = true

/-- Every step keeps every log FIFO within its 16 entries (R133, R216, R264, R349, R382), and what is staged or armed for
parameter registers naming those only (R174, R422). -/
def Obligations.StepKeepsLogsAndBatches : Prop := ∀ (s t : State),
  s.logsOk = true → s.batchesOk = true → step s = .next t → t.logsOk = true ∧ t.batchesOk = true

end
end

