-- ==== Sys2Proof/Laws/Tab.lean ====
section
/-! SUPPORT. Laws of tables and byte memories: what a read gives after a write, and that every operation keeps the
strictly rising order and the canonical form. -/

namespace Sys2Proof.Machine

variable {α : Type}

/-! ### Read after write -/

theorem tabFind_tabSet (t : Tab α) (k k' : Nat) (v : α) :
    tabFind (tabSet t k v) k' = if k = k' then some v else tabFind t k' := by
  induction t with
  | nil => simp [tabSet, tabFind]
  | cons p t ih =>
    obtain ⟨a, b⟩ := p
    simp only [tabSet]
    split
    · simp [tabFind]
    · split
      · subst_vars
        simp only [tabFind]
        split <;> simp_all
      · simp only [tabFind, ih]
        split <;> split <;> simp_all

theorem tabFind_tabDel (t : Tab α) (k k' : Nat) :
    tabFind (tabDel t k) k' = if k = k' then none else tabFind t k' := by
  induction t with
  | nil => simp [tabDel, tabFind]
  | cons p t ih =>
    obtain ⟨a, b⟩ := p
    unfold tabDel at ih ⊢
    by_cases h : a = k
    · subst h
      simp only [List.filter, bne_self_eq_false, ih, tabFind]
      split <;> simp_all
    · simp only [List.filter, tabFind, ih, bne_iff_ne.2 h]
      split <;> split <;> simp_all

@[simp] theorem tabGet_tabPut [DecidableEq α] (t : Tab α) (k k' : Nat) (v d : α) :
    tabGet (tabPut t k v d) k' d = if k = k' then v else tabGet t k' d := by
  unfold tabPut tabGet
  split
  · subst_vars
    rw [tabFind_tabDel]
    split <;> simp
  · rw [tabFind_tabSet]
    split <;> simp

/-- A write at one key leaves a read at another, whatever the two defaults are. -/
theorem tabGet_tabPut_ne [DecidableEq α] (t : Tab α) {k k' : Nat} (h : k ≠ k') (v d d' : α) :
    tabGet (tabPut t k v d) k' d' = tabGet t k' d' := by
  unfold tabPut tabGet
  split
  · rw [tabFind_tabDel, if_neg h]
  · rw [tabFind_tabSet, if_neg h]

theorem tabFind_tabClear (t : Tab α) (a n k : Nat) :
    tabFind (tabClear t a n) k = if a ≤ k ∧ k < a + n then none else tabFind t k := by
  induction t with
  | nil => simp [tabClear, tabFind]
  | cons p t ih =>
    obtain ⟨x, b⟩ := p
    unfold tabClear at ih ⊢
    by_cases h : a ≤ x ∧ x < a + n
    · have : (!(decide (a ≤ x) && decide (x < a + n))) = false := by simp [h.1, h.2]
      simp only [List.filter, this, ih, tabFind]
      by_cases hx : x = k
      · subst hx; simp [h]
      · simp [hx]
    · have : (!(decide (a ≤ x) && decide (x < a + n))) = true := by
        simp only [Bool.not_eq_true', Bool.and_eq_false_iff, decide_eq_false_iff_not]
        omega
      simp only [List.filter, this, ih, tabFind]
      by_cases hx : x = k
      · subst hx; simp [h]
      · simp [hx]

theorem tabGet_tabClear (t : Tab α) (a n k : Nat) (d : α) :
    tabGet (tabClear t a n) k d = if a ≤ k ∧ k < a + n then d else tabGet t k d := by
  unfold tabGet
  rw [tabFind_tabClear]
  split <;> simp

@[simp] theorem Mem.get_set (m : Mem) (a a' : Nat) (b : Byte) :
    (m.set a b).get a' = if a = a' then b else m.get a' :=
  tabGet_tabPut m a a' b Mem.unlisted

@[simp] theorem Mem.get_clear (m : Mem) (a n a' : Nat) :
    (m.clear a n).get a' = if a ≤ a' ∧ a' < a + n then 0 else m.get a' :=
  tabGet_tabClear m a n a' Mem.unlisted

/-- A run of bytes written: each address of the run reads its byte, every other address reads as before. -/
theorem Mem.get_write (m : Mem) (a : Nat) (bs : List Byte) (a' : Nat) :
    (m.write a bs).get a' = if a ≤ a' ∧ a' < a + bs.length then bs.getD (a' - a) 0 else m.get a' := by
  induction bs generalizing m a with
  | nil =>
    have h : ¬ (a ≤ a' ∧ a' < a + ([] : List Byte).length) := by rw [List.length_nil]; omega
    rw [if_neg h]; rfl
  | cons b bs ih =>
    simp only [Mem.write, ih, Mem.get_set, List.length_cons]
    by_cases h : a + 1 ≤ a' ∧ a' < a + 1 + bs.length
    · have e : a' - a = (a' - (a + 1)) + 1 := by omega
      have h2 : a ≤ a' ∧ a' < a + (bs.length + 1) := by omega
      simp [h, h2, e]
    · by_cases he : a = a'
      · subst he; rw [if_neg h]; simp
      · have h2 : ¬ (a ≤ a' ∧ a' < a + (bs.length + 1)) := by omega
        rw [if_neg h, if_neg h2, if_neg he]

/-- Outside the run, a write with byte enables leaves every byte. -/
theorem Mem.get_writeSome_outside (m : Mem) (a : Nat) (bs : List (Option Byte)) (a' : Nat)
    (h : a' < a ∨ a + bs.length ≤ a') : (m.writeSome a bs).get a' = m.get a' := by
  induction bs generalizing m a with
  | nil => rfl
  | cons b bs ih =>
    simp only [List.length_cons] at h
    cases b with
    | none => simp only [Mem.writeSome]; exact ih m (a + 1) (by omega)
    | some b =>
      simp only [Mem.writeSome]
      rw [ih _ (a + 1) (by omega), Mem.get_set, if_neg (by omega)]

@[simp] theorem Mem.read_length (m : Mem) (a n : Nat) : (m.read a n).length = n := by
  induction n generalizing a with
  | zero => rfl
  | succ n ih => simp [Mem.read, ih]

/-! ### Order and canonical form -/

theorem risesAbove_mono {a b : Nat} (h : a ≤ b) {t : Tab α} : risesAbove b t = true → risesAbove a t = true := by
  cases t with
  | nil => simp [risesAbove]
  | cons p t => simp only [risesAbove, Bool.and_eq_true, decide_eq_true_eq]; exact fun ⟨x, y⟩ => ⟨by omega, y⟩

theorem risesAbove_filter (p : Nat × α → Bool) {b : Nat} {t : Tab α} :
    risesAbove b t = true → risesAbove b (t.filter p) = true := by
  induction t generalizing b with
  | nil => simp [risesAbove]
  | cons x t ih =>
    simp only [risesAbove, Bool.and_eq_true, decide_eq_true_eq, List.filter]
    rintro ⟨h1, h2⟩
    split
    · simp only [risesAbove, Bool.and_eq_true, decide_eq_true_eq]; exact ⟨h1, ih h2⟩
    · exact risesAbove_mono (by omega) (ih h2)

theorem risesAbove_tabSet {b k : Nat} {v : α} {t : Tab α} (hk : b < k) :
    risesAbove b t = true → risesAbove b (tabSet t k v) = true := by
  induction t generalizing b with
  | nil => simp [tabSet, risesAbove, hk]
  | cons x t ih =>
    obtain ⟨k', v'⟩ := x
    simp only [risesAbove, Bool.and_eq_true, decide_eq_true_eq, tabSet]
    rintro ⟨h1, h2⟩
    split
    · simp only [risesAbove, Bool.and_eq_true, decide_eq_true_eq]; exact ⟨hk, by assumption, h2⟩
    · split
      · subst_vars; simp only [risesAbove, Bool.and_eq_true, decide_eq_true_eq]; exact ⟨h1, h2⟩
      · simp only [risesAbove, Bool.and_eq_true, decide_eq_true_eq]; exact ⟨h1, ih (by omega) h2⟩

theorem tabWf_filter (p : Nat × α → Bool) {t : Tab α} (h : tabWf t = true) : tabWf (t.filter p) = true := by
  induction t with
  | nil => rfl
  | cons x t ih =>
    simp only [tabWf] at h
    simp only [List.filter]
    split
    · simp only [tabWf]; exact risesAbove_filter p h
    · refine ih ?_
      cases t with
      | nil => rfl
      | cons y t => simp only [risesAbove, Bool.and_eq_true] at h; exact h.2

theorem tabWf_tabSet {t : Tab α} (k : Nat) (v : α) (h : tabWf t = true) : tabWf (tabSet t k v) = true := by
  cases t with
  | nil => rfl
  | cons x t =>
    obtain ⟨k', v'⟩ := x
    simp only [tabWf] at h
    simp only [tabSet]
    split
    · simp only [tabWf, risesAbove, Bool.and_eq_true, decide_eq_true_eq]; exact ⟨by assumption, h⟩
    · split
      · subst_vars; exact h
      · simp only [tabWf]; exact risesAbove_tabSet (by omega) h

theorem tabWf_tabPut [DecidableEq α] {t : Tab α} (k : Nat) (v d : α) (h : tabWf t = true) :
    tabWf (tabPut t k v d) = true := by
  unfold tabPut tabDel
  split
  · exact tabWf_filter _ h
  · exact tabWf_tabSet k v h

theorem tabSet_all (p : Nat × α → Bool) {t : Tab α} {k : Nat} {v : α} (hv : p (k, v) = true) (h : t.all p = true) :
    (tabSet t k v).all p = true := by
  induction t with
  | nil => simp [tabSet, hv]
  | cons x t ih =>
    obtain ⟨k', v'⟩ := x
    simp only [List.all_cons, Bool.and_eq_true] at h
    simp only [tabSet]
    split
    · simp only [List.all_cons, Bool.and_eq_true]; exact ⟨hv, h.1, h.2⟩
    · split
      · simp only [List.all_cons, Bool.and_eq_true]; exact ⟨hv, h.2⟩
      · simp only [List.all_cons, Bool.and_eq_true]; exact ⟨h.1, ih h.2⟩

/-- Filtering keeps the canonical form. -/
theorem Mem.wf_filter {m : Mem} (p : Host.Cell → Bool) (h : Mem.wf m = true) : Mem.wf (m.filter p) = true := by
  simp only [Mem.wf, Bool.and_eq_true] at h ⊢
  refine ⟨tabWf_filter p h.1, ?_⟩
  rw [List.all_eq_true] at h ⊢
  exact fun x hx => h.2 x (List.mem_filter.1 hx).1

/-- Writing one byte keeps the canonical form. -/
theorem Mem.wf_set {m : Mem} (a : Nat) (b : Byte) (h : Mem.wf m = true) : Mem.wf (m.set a b) = true := by
  unfold Mem.set tabPut
  split
  · exact Mem.wf_filter _ h
  · rename_i hb
    simp only [Mem.wf, Bool.and_eq_true] at h ⊢
    refine ⟨tabWf_tabSet a b h.1, tabSet_all _ ?_ h.2⟩
    simpa [Mem.unlisted] using hb

/-- Writing a run of bytes keeps the canonical form. -/
theorem Mem.wf_write {m : Mem} (a : Nat) (bs : List Byte) (h : Mem.wf m = true) : Mem.wf (m.write a bs) = true := by
  induction bs generalizing m a with
  | nil => exact h
  | cons b bs ih => exact ih (a + 1) (Mem.wf_set a b h)

/-- Writing a run with byte enables keeps the canonical form. -/
theorem Mem.wf_writeSome {m : Mem} (a : Nat) (bs : List (Option Byte)) (h : Mem.wf m = true) :
    Mem.wf (m.writeSome a bs) = true := by
  induction bs generalizing m a with
  | nil => exact h
  | cons b bs ih =>
    cases b with
    | none => exact ih (a + 1) h
    | some b => exact ih (a + 1) (Mem.wf_set a b h)

/-- Clearing a range keeps the canonical form. -/
theorem Mem.wf_clear {m : Mem} (a n : Nat) (h : Mem.wf m = true) : Mem.wf (m.clear a n) = true :=
  Mem.wf_filter _ h

end Sys2Proof.Machine
end

