-- ==== Sys2Proof/Laws/State.lean ====
section
/-! SUPPORT. The small lemmas of State: what each plain update leaves of each field, and what each read gives after
each write, so that no later proof unfolds a record update. The normal form of a register fact is `getBits (s.reg k) lo w`
and that of a register update is `s.setReg k v`. -/

namespace Sys2Proof.Machine

variable (s : State)

/-! ### One spelling for each read and each update -/

@[simp] theorem State.fieldAt_eq (k lo w : Nat) : s.fieldAt k lo w = getBits (s.reg k) lo w := rfl
@[simp] theorem State.qreg_eq (q o : Nat) : s.qreg q o = s.reg (qkey q o) := rfl
@[simp] theorem State.now_eq : s.now = s.cnt64 kTbNow := rfl
@[simp] theorem State.setField_eq (k lo w v : Nat) : s.setField k lo w v = s.setReg k (putBits (s.reg k) lo w v) := rfl
@[simp] theorem State.orReg_eq (k m : Nat) : s.orReg k m = s.setReg k (s.reg k ||| w32 m) := rfl
@[simp] theorem State.setQreg_eq (q o : Nat) (v : W32) : s.setQreg q o v = s.setReg (qkey q o) v := rfl
@[simp] theorem State.bump_eq (k n : Nat) : s.bump k n = s.setCnt64 k (s.cnt64 k + w64 n) := rfl

/-! ### Reads of a state that is written out field by field -/

section
variable {f0 : Tab W32}
  {f1 : Tab W64}
  {f2 : Tab W32}
  {f3 : Tab W32}
  {f4 : List Nat}
  {f5 : Tab Quay}
  {f6 : Tab Port}
  {f7 : Tab Chan}
  {f8 : Time}
  {f9 : Tide}
  {f10 : Stack}
  {f11 : Fabric}
  {f12 : Serve}
  {f13 : Silo}
  {f14 : Power}
  {f15 : Board}
  {f16 : Fuses}
  {f17 : BitVec 144}
  {f18 : BitVec 144}
  {f19 : BitVec 144}
  {f20 : W16}
  {f21 : Bool}
  {f22 : Mem}
  {f23 : Mem}
  {f24 : List LogEntry}
  {f25 : List LogEntry}
  {f26 : List LogEntry}
  {f27 : List LogEntry}
  {f28 : List LogEntry}
  {f29 : List Out}
  {f30 : Nat}
  {f31 : List Instr}

@[simp] theorem State.reg_mk (k' : Nat) : State.reg
    ⟨f0, f1, f2, f3, f4, f5, f6, f7, f8, f9, f10, f11, f12, f13, f14, f15, f16, f17, f18, f19, f20, f21, f22, f23, f24, f25, f26, f27, f28, f29, f30, f31⟩ k' =
    tabGet f0 k' (resetOf k') := rfl
@[simp] theorem State.cnt64_mk (k' : Nat) : State.cnt64
    ⟨f0, f1, f2, f3, f4, f5, f6, f7, f8, f9, f10, f11, f12, f13, f14, f15, f16, f17, f18, f19, f20, f21, f22, f23, f24, f25, f26, f27, f28, f29, f30, f31⟩ k' =
    tabGet f1 k' (0) := rfl
@[simp] theorem State.quay_mk (q' : Nat) : State.quay
    ⟨f0, f1, f2, f3, f4, f5, f6, f7, f8, f9, f10, f11, f12, f13, f14, f15, f16, f17, f18, f19, f20, f21, f22, f23, f24, f25, f26, f27, f28, f29, f30, f31⟩ q' =
    tabGet f5 q' (Quay.init) := rfl
@[simp] theorem State.port_mk (p' : Nat) : State.port
    ⟨f0, f1, f2, f3, f4, f5, f6, f7, f8, f9, f10, f11, f12, f13, f14, f15, f16, f17, f18, f19, f20, f21, f22, f23, f24, f25, f26, f27, f28, f29, f30, f31⟩ p' =
    tabGet f6 p' (Port.init) := rfl
@[simp] theorem State.chan_mk (c' : Nat) : State.chan
    ⟨f0, f1, f2, f3, f4, f5, f6, f7, f8, f9, f10, f11, f12, f13, f14, f15, f16, f17, f18, f19, f20, f21, f22, f23, f24, f25, f26, f27, f28, f29, f30, f31⟩ c' =
    tabGet f7 c' (Chan.init) := rfl
end

@[simp] theorem State.reg_fold (k' : Nat) : tabGet s.regs k' (resetOf k') = s.reg k' := rfl
@[simp] theorem State.cnt64_fold (k' : Nat) : tabGet s.c64 k' (0) = s.cnt64 k' := rfl
@[simp] theorem State.quay_fold (q' : Nat) : tabGet s.quays q' (Quay.init) = s.quay q' := rfl
@[simp] theorem State.port_fold (p' : Nat) : tabGet s.ports p' (Port.init) = s.port p' := rfl
@[simp] theorem State.chan_fold (c' : Nat) : tabGet s.chans c' (Chan.init) = s.chan c' := rfl

/-! ### A read after the update that writes it -/

theorem State.reg_setReg (k k' : Nat) (v : W32) : (s.setReg k v).reg k' = if k = k' then v else s.reg k' := by
  unfold State.setReg State.reg
  split
  · subst_vars; simp
  · exact tabGet_tabPut_ne _ (by assumption) _ _ _

@[simp] theorem State.reg_setReg_same (k : Nat) (v : W32) : (s.setReg k v).reg k = v := by
  simp [State.reg_setReg]

@[simp] theorem State.reg_setReg_ne {k k' : Nat} (h : k ≠ k') (v : W32) : (s.setReg k v).reg k' = s.reg k' := by
  simp [State.reg_setReg, h]

@[simp] theorem State.reg_setReg_ne' {k k' : Nat} (h : k' ≠ k) (v : W32) : (s.setReg k v).reg k' = s.reg k' :=
  s.reg_setReg_ne (Ne.symm h) v

theorem State.cnt64_setCnt64 (k k' : Nat) (v : W64) :
    (s.setCnt64 k v).cnt64 k' = if k = k' then v else s.cnt64 k' := tabGet_tabPut _ _ _ _ _

@[simp] theorem State.cnt64_setCnt64_same (k : Nat) (v : W64) : (s.setCnt64 k v).cnt64 k = v := by
  simp [State.cnt64_setCnt64]

@[simp] theorem State.cnt64_setCnt64_ne {k k' : Nat} (h : k ≠ k') (v : W64) :
    (s.setCnt64 k v).cnt64 k' = s.cnt64 k' := by
  simp [State.cnt64_setCnt64, h]

@[simp] theorem State.cnt64_setCnt64_ne' {k k' : Nat} (h : k' ≠ k) (v : W64) :
    (s.setCnt64 k v).cnt64 k' = s.cnt64 k' := s.cnt64_setCnt64_ne (Ne.symm h) v

theorem State.quay_setQuay (q q' : Nat) (x : Quay) : (s.setQuay q x).quay q' = if q = q' then x else s.quay q' :=
  tabGet_tabPut _ _ _ _ _

@[simp] theorem State.quay_setQuay_same (q : Nat) (x : Quay) : (s.setQuay q x).quay q = x := by
  simp [State.quay_setQuay]

@[simp] theorem State.quay_setQuay_ne {q q' : Nat} (h : q' ≠ q) (x : Quay) : (s.setQuay q x).quay q' = s.quay q' := by
  simp [State.quay_setQuay, Ne.symm h]

theorem State.port_setPort (p p' : Nat) (x : Port) : (s.setPort p x).port p' = if p = p' then x else s.port p' :=
  tabGet_tabPut _ _ _ _ _

@[simp] theorem State.port_setPort_same (p : Nat) (x : Port) : (s.setPort p x).port p = x := by
  simp [State.port_setPort]

@[simp] theorem State.port_setPort_ne {p p' : Nat} (h : p' ≠ p) (x : Port) : (s.setPort p x).port p' = s.port p' := by
  simp [State.port_setPort, Ne.symm h]

theorem State.chan_setChan (c c' : Nat) (x : Chan) : (s.setChan c x).chan c' = if c = c' then x else s.chan c' :=
  tabGet_tabPut _ _ _ _ _

@[simp] theorem State.chan_setChan_same (c : Nat) (x : Chan) : (s.setChan c x).chan c = x := by
  simp [State.chan_setChan]

@[simp] theorem State.chan_setChan_ne {c c' : Nat} (h : c' ≠ c) (x : Chan) : (s.setChan c x).chan c' = s.chan c' := by
  simp [State.chan_setChan, Ne.symm h]

theorem State.cnt64_clear64 (k n k' : Nat) :
    (s.clear64 k n).cnt64 k' = if k ≤ k' ∧ k' < k + n then 0 else s.cnt64 k' := tabGet_tabClear _ _ _ _ _

theorem State.cnt64_resetRegs (k n k' : Nat) :
    (s.resetRegs k n).cnt64 k' = if k ≤ k' ∧ k' < k + n then 0 else s.cnt64 k' := tabGet_tabClear _ _ _ _ _

/-- A register of a run that is reset reads its reset value (R441, R446). -/
theorem State.reg_resetRegs (k n k' : Nat) :
    (s.resetRegs k n).reg k' = if k ≤ k' ∧ k' < k + n then resetOf k' else s.reg k' := tabGet_tabClear _ _ _ _ _

@[simp] theorem State.emit_out (o : Out) : (s.emit o).out = s.out ++ [o] := rfl

/-! ### Each update and the fields and reads it leaves -/

theorem State.setReg_frame (k : Nat) (v : W32) : s.setReg k v = { s with regs := (s.setReg k v).regs } := rfl
@[simp] theorem State.setReg_c64 (k : Nat) (v : W32) : (s.setReg k v).c64 = s.c64 := rfl
@[simp] theorem State.setReg_latch (k : Nat) (v : W32) : (s.setReg k v).latch = s.latch := rfl
@[simp] theorem State.setReg_staged (k : Nat) (v : W32) : (s.setReg k v).staged = s.staged := rfl
@[simp] theorem State.setReg_locked (k : Nat) (v : W32) : (s.setReg k v).locked = s.locked := rfl
@[simp] theorem State.setReg_quays (k : Nat) (v : W32) : (s.setReg k v).quays = s.quays := rfl
@[simp] theorem State.setReg_ports (k : Nat) (v : W32) : (s.setReg k v).ports = s.ports := rfl
@[simp] theorem State.setReg_chans (k : Nat) (v : W32) : (s.setReg k v).chans = s.chans := rfl
@[simp] theorem State.setReg_time (k : Nat) (v : W32) : (s.setReg k v).time = s.time := rfl
@[simp] theorem State.setReg_tide (k : Nat) (v : W32) : (s.setReg k v).tide = s.tide := rfl
@[simp] theorem State.setReg_stack (k : Nat) (v : W32) : (s.setReg k v).stack = s.stack := rfl
@[simp] theorem State.setReg_fabric (k : Nat) (v : W32) : (s.setReg k v).fabric = s.fabric := rfl
@[simp] theorem State.setReg_serve (k : Nat) (v : W32) : (s.setReg k v).serve = s.serve := rfl
@[simp] theorem State.setReg_silo (k : Nat) (v : W32) : (s.setReg k v).silo = s.silo := rfl
@[simp] theorem State.setReg_power (k : Nat) (v : W32) : (s.setReg k v).power = s.power := rfl
@[simp] theorem State.setReg_board (k : Nat) (v : W32) : (s.setReg k v).board = s.board := rfl
@[simp] theorem State.setReg_fuses (k : Nat) (v : W32) : (s.setReg k v).fuses = s.fuses := rfl
@[simp] theorem State.setReg_qen (k : Nat) (v : W32) : (s.setReg k v).qen = s.qen := rfl
@[simp] theorem State.setReg_qspare (k : Nat) (v : W32) : (s.setReg k v).qspare = s.qspare := rfl
@[simp] theorem State.setReg_rbad (k : Nat) (v : W32) : (s.setReg k v).rbad = s.rbad := rfl
@[simp] theorem State.setReg_pbad (k : Nat) (v : W32) : (s.setReg k v).pbad = s.pbad := rfl
@[simp] theorem State.setReg_distValid (k : Nat) (v : W32) : (s.setReg k v).distValid = s.distValid := rfl
@[simp] theorem State.setReg_chartBuf (k : Nat) (v : W32) : (s.setReg k v).chartBuf = s.chartBuf := rfl
@[simp] theorem State.setReg_windows (k : Nat) (v : W32) : (s.setReg k v).windows = s.windows := rfl
@[simp] theorem State.setReg_eccLog (k : Nat) (v : W32) : (s.setReg k v).eccLog = s.eccLog := rfl
@[simp] theorem State.setReg_extLog (k : Nat) (v : W32) : (s.setReg k v).extLog = s.extLog := rfl
@[simp] theorem State.setReg_fabLog (k : Nat) (v : W32) : (s.setReg k v).fabLog = s.fabLog := rfl
@[simp] theorem State.setReg_wakeLog (k : Nat) (v : W32) : (s.setReg k v).wakeLog = s.wakeLog := rfl
@[simp] theorem State.setReg_siloLog (k : Nat) (v : W32) : (s.setReg k v).siloLog = s.siloLog := rfl
@[simp] theorem State.setReg_out (k : Nat) (v : W32) : (s.setReg k v).out = s.out := rfl
@[simp] theorem State.setReg_free (k : Nat) (v : W32) : (s.setReg k v).free = s.free := rfl
@[simp] theorem State.setReg_pending (k : Nat) (v : W32) : (s.setReg k v).pending = s.pending := rfl
@[simp] theorem State.setReg_cnt64 (k : Nat) (v : W32) (k' : Nat) : (s.setReg k v).cnt64 k' = s.cnt64 k' := rfl
@[simp] theorem State.setReg_quay (k : Nat) (v : W32) (q' : Nat) : (s.setReg k v).quay q' = s.quay q' := rfl
@[simp] theorem State.setReg_port (k : Nat) (v : W32) (p' : Nat) : (s.setReg k v).port p' = s.port p' := rfl
@[simp] theorem State.setReg_chan (k : Nat) (v : W32) (c' : Nat) : (s.setReg k v).chan c' = s.chan c' := rfl
theorem State.setCnt64_frame (k : Nat) (v : W64) : s.setCnt64 k v = { s with c64 := (s.setCnt64 k v).c64 } := rfl
@[simp] theorem State.setCnt64_regs (k : Nat) (v : W64) : (s.setCnt64 k v).regs = s.regs := rfl
@[simp] theorem State.setCnt64_latch (k : Nat) (v : W64) : (s.setCnt64 k v).latch = s.latch := rfl
@[simp] theorem State.setCnt64_staged (k : Nat) (v : W64) : (s.setCnt64 k v).staged = s.staged := rfl
@[simp] theorem State.setCnt64_locked (k : Nat) (v : W64) : (s.setCnt64 k v).locked = s.locked := rfl
@[simp] theorem State.setCnt64_quays (k : Nat) (v : W64) : (s.setCnt64 k v).quays = s.quays := rfl
@[simp] theorem State.setCnt64_ports (k : Nat) (v : W64) : (s.setCnt64 k v).ports = s.ports := rfl
@[simp] theorem State.setCnt64_chans (k : Nat) (v : W64) : (s.setCnt64 k v).chans = s.chans := rfl
@[simp] theorem State.setCnt64_time (k : Nat) (v : W64) : (s.setCnt64 k v).time = s.time := rfl
@[simp] theorem State.setCnt64_tide (k : Nat) (v : W64) : (s.setCnt64 k v).tide = s.tide := rfl
@[simp] theorem State.setCnt64_stack (k : Nat) (v : W64) : (s.setCnt64 k v).stack = s.stack := rfl
@[simp] theorem State.setCnt64_fabric (k : Nat) (v : W64) : (s.setCnt64 k v).fabric = s.fabric := rfl
@[simp] theorem State.setCnt64_serve (k : Nat) (v : W64) : (s.setCnt64 k v).serve = s.serve := rfl
@[simp] theorem State.setCnt64_silo (k : Nat) (v : W64) : (s.setCnt64 k v).silo = s.silo := rfl
@[simp] theorem State.setCnt64_power (k : Nat) (v : W64) : (s.setCnt64 k v).power = s.power := rfl
@[simp] theorem State.setCnt64_board (k : Nat) (v : W64) : (s.setCnt64 k v).board = s.board := rfl
@[simp] theorem State.setCnt64_fuses (k : Nat) (v : W64) : (s.setCnt64 k v).fuses = s.fuses := rfl
@[simp] theorem State.setCnt64_qen (k : Nat) (v : W64) : (s.setCnt64 k v).qen = s.qen := rfl
@[simp] theorem State.setCnt64_qspare (k : Nat) (v : W64) : (s.setCnt64 k v).qspare = s.qspare := rfl
@[simp] theorem State.setCnt64_rbad (k : Nat) (v : W64) : (s.setCnt64 k v).rbad = s.rbad := rfl
@[simp] theorem State.setCnt64_pbad (k : Nat) (v : W64) : (s.setCnt64 k v).pbad = s.pbad := rfl
@[simp] theorem State.setCnt64_distValid (k : Nat) (v : W64) : (s.setCnt64 k v).distValid = s.distValid := rfl
@[simp] theorem State.setCnt64_chartBuf (k : Nat) (v : W64) : (s.setCnt64 k v).chartBuf = s.chartBuf := rfl
@[simp] theorem State.setCnt64_windows (k : Nat) (v : W64) : (s.setCnt64 k v).windows = s.windows := rfl
@[simp] theorem State.setCnt64_eccLog (k : Nat) (v : W64) : (s.setCnt64 k v).eccLog = s.eccLog := rfl
@[simp] theorem State.setCnt64_extLog (k : Nat) (v : W64) : (s.setCnt64 k v).extLog = s.extLog := rfl
@[simp] theorem State.setCnt64_fabLog (k : Nat) (v : W64) : (s.setCnt64 k v).fabLog = s.fabLog := rfl
@[simp] theorem State.setCnt64_wakeLog (k : Nat) (v : W64) : (s.setCnt64 k v).wakeLog = s.wakeLog := rfl
@[simp] theorem State.setCnt64_siloLog (k : Nat) (v : W64) : (s.setCnt64 k v).siloLog = s.siloLog := rfl
@[simp] theorem State.setCnt64_out (k : Nat) (v : W64) : (s.setCnt64 k v).out = s.out := rfl
@[simp] theorem State.setCnt64_free (k : Nat) (v : W64) : (s.setCnt64 k v).free = s.free := rfl
@[simp] theorem State.setCnt64_pending (k : Nat) (v : W64) : (s.setCnt64 k v).pending = s.pending := rfl
@[simp] theorem State.setCnt64_reg (k : Nat) (v : W64) (k' : Nat) : (s.setCnt64 k v).reg k' = s.reg k' := rfl
@[simp] theorem State.setCnt64_quay (k : Nat) (v : W64) (q' : Nat) : (s.setCnt64 k v).quay q' = s.quay q' := rfl
@[simp] theorem State.setCnt64_port (k : Nat) (v : W64) (p' : Nat) : (s.setCnt64 k v).port p' = s.port p' := rfl
@[simp] theorem State.setCnt64_chan (k : Nat) (v : W64) (c' : Nat) : (s.setCnt64 k v).chan c' = s.chan c' := rfl
theorem State.clear64_frame (k n : Nat) : s.clear64 k n = { s with c64 := (s.clear64 k n).c64 } := rfl
@[simp] theorem State.clear64_regs (k n : Nat) : (s.clear64 k n).regs = s.regs := rfl
@[simp] theorem State.clear64_latch (k n : Nat) : (s.clear64 k n).latch = s.latch := rfl
@[simp] theorem State.clear64_staged (k n : Nat) : (s.clear64 k n).staged = s.staged := rfl
@[simp] theorem State.clear64_locked (k n : Nat) : (s.clear64 k n).locked = s.locked := rfl
@[simp] theorem State.clear64_quays (k n : Nat) : (s.clear64 k n).quays = s.quays := rfl
@[simp] theorem State.clear64_ports (k n : Nat) : (s.clear64 k n).ports = s.ports := rfl
@[simp] theorem State.clear64_chans (k n : Nat) : (s.clear64 k n).chans = s.chans := rfl
@[simp] theorem State.clear64_time (k n : Nat) : (s.clear64 k n).time = s.time := rfl
@[simp] theorem State.clear64_tide (k n : Nat) : (s.clear64 k n).tide = s.tide := rfl
@[simp] theorem State.clear64_stack (k n : Nat) : (s.clear64 k n).stack = s.stack := rfl
@[simp] theorem State.clear64_fabric (k n : Nat) : (s.clear64 k n).fabric = s.fabric := rfl
@[simp] theorem State.clear64_serve (k n : Nat) : (s.clear64 k n).serve = s.serve := rfl
@[simp] theorem State.clear64_silo (k n : Nat) : (s.clear64 k n).silo = s.silo := rfl
@[simp] theorem State.clear64_power (k n : Nat) : (s.clear64 k n).power = s.power := rfl
@[simp] theorem State.clear64_board (k n : Nat) : (s.clear64 k n).board = s.board := rfl
@[simp] theorem State.clear64_fuses (k n : Nat) : (s.clear64 k n).fuses = s.fuses := rfl
@[simp] theorem State.clear64_qen (k n : Nat) : (s.clear64 k n).qen = s.qen := rfl
@[simp] theorem State.clear64_qspare (k n : Nat) : (s.clear64 k n).qspare = s.qspare := rfl
@[simp] theorem State.clear64_rbad (k n : Nat) : (s.clear64 k n).rbad = s.rbad := rfl
@[simp] theorem State.clear64_pbad (k n : Nat) : (s.clear64 k n).pbad = s.pbad := rfl
@[simp] theorem State.clear64_distValid (k n : Nat) : (s.clear64 k n).distValid = s.distValid := rfl
@[simp] theorem State.clear64_chartBuf (k n : Nat) : (s.clear64 k n).chartBuf = s.chartBuf := rfl
@[simp] theorem State.clear64_windows (k n : Nat) : (s.clear64 k n).windows = s.windows := rfl
@[simp] theorem State.clear64_eccLog (k n : Nat) : (s.clear64 k n).eccLog = s.eccLog := rfl
@[simp] theorem State.clear64_extLog (k n : Nat) : (s.clear64 k n).extLog = s.extLog := rfl
@[simp] theorem State.clear64_fabLog (k n : Nat) : (s.clear64 k n).fabLog = s.fabLog := rfl
@[simp] theorem State.clear64_wakeLog (k n : Nat) : (s.clear64 k n).wakeLog = s.wakeLog := rfl
@[simp] theorem State.clear64_siloLog (k n : Nat) : (s.clear64 k n).siloLog = s.siloLog := rfl
@[simp] theorem State.clear64_out (k n : Nat) : (s.clear64 k n).out = s.out := rfl
@[simp] theorem State.clear64_free (k n : Nat) : (s.clear64 k n).free = s.free := rfl
@[simp] theorem State.clear64_pending (k n : Nat) : (s.clear64 k n).pending = s.pending := rfl
@[simp] theorem State.clear64_reg (k n : Nat) (k' : Nat) : (s.clear64 k n).reg k' = s.reg k' := rfl
@[simp] theorem State.clear64_quay (k n : Nat) (q' : Nat) : (s.clear64 k n).quay q' = s.quay q' := rfl
@[simp] theorem State.clear64_port (k n : Nat) (p' : Nat) : (s.clear64 k n).port p' = s.port p' := rfl
@[simp] theorem State.clear64_chan (k n : Nat) (c' : Nat) : (s.clear64 k n).chan c' = s.chan c' := rfl
theorem State.resetRegs_frame (k n : Nat) : s.resetRegs k n = { s with regs := (s.resetRegs k n).regs, c64 := (s.resetRegs k n).c64 } := rfl
@[simp] theorem State.resetRegs_latch (k n : Nat) : (s.resetRegs k n).latch = s.latch := rfl
@[simp] theorem State.resetRegs_staged (k n : Nat) : (s.resetRegs k n).staged = s.staged := rfl
@[simp] theorem State.resetRegs_locked (k n : Nat) : (s.resetRegs k n).locked = s.locked := rfl
@[simp] theorem State.resetRegs_quays (k n : Nat) : (s.resetRegs k n).quays = s.quays := rfl
@[simp] theorem State.resetRegs_ports (k n : Nat) : (s.resetRegs k n).ports = s.ports := rfl
@[simp] theorem State.resetRegs_chans (k n : Nat) : (s.resetRegs k n).chans = s.chans := rfl
@[simp] theorem State.resetRegs_time (k n : Nat) : (s.resetRegs k n).time = s.time := rfl
@[simp] theorem State.resetRegs_tide (k n : Nat) : (s.resetRegs k n).tide = s.tide := rfl
@[simp] theorem State.resetRegs_stack (k n : Nat) : (s.resetRegs k n).stack = s.stack := rfl
@[simp] theorem State.resetRegs_fabric (k n : Nat) : (s.resetRegs k n).fabric = s.fabric := rfl
@[simp] theorem State.resetRegs_serve (k n : Nat) : (s.resetRegs k n).serve = s.serve := rfl
@[simp] theorem State.resetRegs_silo (k n : Nat) : (s.resetRegs k n).silo = s.silo := rfl
@[simp] theorem State.resetRegs_power (k n : Nat) : (s.resetRegs k n).power = s.power := rfl
@[simp] theorem State.resetRegs_board (k n : Nat) : (s.resetRegs k n).board = s.board := rfl
@[simp] theorem State.resetRegs_fuses (k n : Nat) : (s.resetRegs k n).fuses = s.fuses := rfl
@[simp] theorem State.resetRegs_qen (k n : Nat) : (s.resetRegs k n).qen = s.qen := rfl
@[simp] theorem State.resetRegs_qspare (k n : Nat) : (s.resetRegs k n).qspare = s.qspare := rfl
@[simp] theorem State.resetRegs_rbad (k n : Nat) : (s.resetRegs k n).rbad = s.rbad := rfl
@[simp] theorem State.resetRegs_pbad (k n : Nat) : (s.resetRegs k n).pbad = s.pbad := rfl
@[simp] theorem State.resetRegs_distValid (k n : Nat) : (s.resetRegs k n).distValid = s.distValid := rfl
@[simp] theorem State.resetRegs_chartBuf (k n : Nat) : (s.resetRegs k n).chartBuf = s.chartBuf := rfl
@[simp] theorem State.resetRegs_windows (k n : Nat) : (s.resetRegs k n).windows = s.windows := rfl
@[simp] theorem State.resetRegs_eccLog (k n : Nat) : (s.resetRegs k n).eccLog = s.eccLog := rfl
@[simp] theorem State.resetRegs_extLog (k n : Nat) : (s.resetRegs k n).extLog = s.extLog := rfl
@[simp] theorem State.resetRegs_fabLog (k n : Nat) : (s.resetRegs k n).fabLog = s.fabLog := rfl
@[simp] theorem State.resetRegs_wakeLog (k n : Nat) : (s.resetRegs k n).wakeLog = s.wakeLog := rfl
@[simp] theorem State.resetRegs_siloLog (k n : Nat) : (s.resetRegs k n).siloLog = s.siloLog := rfl
@[simp] theorem State.resetRegs_out (k n : Nat) : (s.resetRegs k n).out = s.out := rfl
@[simp] theorem State.resetRegs_free (k n : Nat) : (s.resetRegs k n).free = s.free := rfl
@[simp] theorem State.resetRegs_pending (k n : Nat) : (s.resetRegs k n).pending = s.pending := rfl
@[simp] theorem State.resetRegs_quay (k n : Nat) (q' : Nat) : (s.resetRegs k n).quay q' = s.quay q' := rfl
@[simp] theorem State.resetRegs_port (k n : Nat) (p' : Nat) : (s.resetRegs k n).port p' = s.port p' := rfl
@[simp] theorem State.resetRegs_chan (k n : Nat) (c' : Nat) : (s.resetRegs k n).chan c' = s.chan c' := rfl
theorem State.setQuay_frame (q : Nat) (x : Quay) : s.setQuay q x = { s with quays := (s.setQuay q x).quays } := rfl
@[simp] theorem State.setQuay_regs (q : Nat) (x : Quay) : (s.setQuay q x).regs = s.regs := rfl
@[simp] theorem State.setQuay_c64 (q : Nat) (x : Quay) : (s.setQuay q x).c64 = s.c64 := rfl
@[simp] theorem State.setQuay_latch (q : Nat) (x : Quay) : (s.setQuay q x).latch = s.latch := rfl
@[simp] theorem State.setQuay_staged (q : Nat) (x : Quay) : (s.setQuay q x).staged = s.staged := rfl
@[simp] theorem State.setQuay_locked (q : Nat) (x : Quay) : (s.setQuay q x).locked = s.locked := rfl
@[simp] theorem State.setQuay_ports (q : Nat) (x : Quay) : (s.setQuay q x).ports = s.ports := rfl
@[simp] theorem State.setQuay_chans (q : Nat) (x : Quay) : (s.setQuay q x).chans = s.chans := rfl
@[simp] theorem State.setQuay_time (q : Nat) (x : Quay) : (s.setQuay q x).time = s.time := rfl
@[simp] theorem State.setQuay_tide (q : Nat) (x : Quay) : (s.setQuay q x).tide = s.tide := rfl
@[simp] theorem State.setQuay_stack (q : Nat) (x : Quay) : (s.setQuay q x).stack = s.stack := rfl
@[simp] theorem State.setQuay_fabric (q : Nat) (x : Quay) : (s.setQuay q x).fabric = s.fabric := rfl
@[simp] theorem State.setQuay_serve (q : Nat) (x : Quay) : (s.setQuay q x).serve = s.serve := rfl
@[simp] theorem State.setQuay_silo (q : Nat) (x : Quay) : (s.setQuay q x).silo = s.silo := rfl
@[simp] theorem State.setQuay_power (q : Nat) (x : Quay) : (s.setQuay q x).power = s.power := rfl
@[simp] theorem State.setQuay_board (q : Nat) (x : Quay) : (s.setQuay q x).board = s.board := rfl
@[simp] theorem State.setQuay_fuses (q : Nat) (x : Quay) : (s.setQuay q x).fuses = s.fuses := rfl
@[simp] theorem State.setQuay_qen (q : Nat) (x : Quay) : (s.setQuay q x).qen = s.qen := rfl
@[simp] theorem State.setQuay_qspare (q : Nat) (x : Quay) : (s.setQuay q x).qspare = s.qspare := rfl
@[simp] theorem State.setQuay_rbad (q : Nat) (x : Quay) : (s.setQuay q x).rbad = s.rbad := rfl
@[simp] theorem State.setQuay_pbad (q : Nat) (x : Quay) : (s.setQuay q x).pbad = s.pbad := rfl
@[simp] theorem State.setQuay_distValid (q : Nat) (x : Quay) : (s.setQuay q x).distValid = s.distValid := rfl
@[simp] theorem State.setQuay_chartBuf (q : Nat) (x : Quay) : (s.setQuay q x).chartBuf = s.chartBuf := rfl
@[simp] theorem State.setQuay_windows (q : Nat) (x : Quay) : (s.setQuay q x).windows = s.windows := rfl
@[simp] theorem State.setQuay_eccLog (q : Nat) (x : Quay) : (s.setQuay q x).eccLog = s.eccLog := rfl
@[simp] theorem State.setQuay_extLog (q : Nat) (x : Quay) : (s.setQuay q x).extLog = s.extLog := rfl
@[simp] theorem State.setQuay_fabLog (q : Nat) (x : Quay) : (s.setQuay q x).fabLog = s.fabLog := rfl
@[simp] theorem State.setQuay_wakeLog (q : Nat) (x : Quay) : (s.setQuay q x).wakeLog = s.wakeLog := rfl
@[simp] theorem State.setQuay_siloLog (q : Nat) (x : Quay) : (s.setQuay q x).siloLog = s.siloLog := rfl
@[simp] theorem State.setQuay_out (q : Nat) (x : Quay) : (s.setQuay q x).out = s.out := rfl
@[simp] theorem State.setQuay_free (q : Nat) (x : Quay) : (s.setQuay q x).free = s.free := rfl
@[simp] theorem State.setQuay_pending (q : Nat) (x : Quay) : (s.setQuay q x).pending = s.pending := rfl
@[simp] theorem State.setQuay_reg (q : Nat) (x : Quay) (k' : Nat) : (s.setQuay q x).reg k' = s.reg k' := rfl
@[simp] theorem State.setQuay_cnt64 (q : Nat) (x : Quay) (k' : Nat) : (s.setQuay q x).cnt64 k' = s.cnt64 k' := rfl
@[simp] theorem State.setQuay_port (q : Nat) (x : Quay) (p' : Nat) : (s.setQuay q x).port p' = s.port p' := rfl
@[simp] theorem State.setQuay_chan (q : Nat) (x : Quay) (c' : Nat) : (s.setQuay q x).chan c' = s.chan c' := rfl
theorem State.setPort_frame (p : Nat) (x : Port) : s.setPort p x = { s with ports := (s.setPort p x).ports } := rfl
@[simp] theorem State.setPort_regs (p : Nat) (x : Port) : (s.setPort p x).regs = s.regs := rfl
@[simp] theorem State.setPort_c64 (p : Nat) (x : Port) : (s.setPort p x).c64 = s.c64 := rfl
@[simp] theorem State.setPort_latch (p : Nat) (x : Port) : (s.setPort p x).latch = s.latch := rfl
@[simp] theorem State.setPort_staged (p : Nat) (x : Port) : (s.setPort p x).staged = s.staged := rfl
@[simp] theorem State.setPort_locked (p : Nat) (x : Port) : (s.setPort p x).locked = s.locked := rfl
@[simp] theorem State.setPort_quays (p : Nat) (x : Port) : (s.setPort p x).quays = s.quays := rfl
@[simp] theorem State.setPort_chans (p : Nat) (x : Port) : (s.setPort p x).chans = s.chans := rfl
@[simp] theorem State.setPort_time (p : Nat) (x : Port) : (s.setPort p x).time = s.time := rfl
@[simp] theorem State.setPort_tide (p : Nat) (x : Port) : (s.setPort p x).tide = s.tide := rfl
@[simp] theorem State.setPort_stack (p : Nat) (x : Port) : (s.setPort p x).stack = s.stack := rfl
@[simp] theorem State.setPort_fabric (p : Nat) (x : Port) : (s.setPort p x).fabric = s.fabric := rfl
@[simp] theorem State.setPort_serve (p : Nat) (x : Port) : (s.setPort p x).serve = s.serve := rfl
@[simp] theorem State.setPort_silo (p : Nat) (x : Port) : (s.setPort p x).silo = s.silo := rfl
@[simp] theorem State.setPort_power (p : Nat) (x : Port) : (s.setPort p x).power = s.power := rfl
@[simp] theorem State.setPort_board (p : Nat) (x : Port) : (s.setPort p x).board = s.board := rfl
@[simp] theorem State.setPort_fuses (p : Nat) (x : Port) : (s.setPort p x).fuses = s.fuses := rfl
@[simp] theorem State.setPort_qen (p : Nat) (x : Port) : (s.setPort p x).qen = s.qen := rfl
@[simp] theorem State.setPort_qspare (p : Nat) (x : Port) : (s.setPort p x).qspare = s.qspare := rfl
@[simp] theorem State.setPort_rbad (p : Nat) (x : Port) : (s.setPort p x).rbad = s.rbad := rfl
@[simp] theorem State.setPort_pbad (p : Nat) (x : Port) : (s.setPort p x).pbad = s.pbad := rfl
@[simp] theorem State.setPort_distValid (p : Nat) (x : Port) : (s.setPort p x).distValid = s.distValid := rfl
@[simp] theorem State.setPort_chartBuf (p : Nat) (x : Port) : (s.setPort p x).chartBuf = s.chartBuf := rfl
@[simp] theorem State.setPort_windows (p : Nat) (x : Port) : (s.setPort p x).windows = s.windows := rfl
@[simp] theorem State.setPort_eccLog (p : Nat) (x : Port) : (s.setPort p x).eccLog = s.eccLog := rfl
@[simp] theorem State.setPort_extLog (p : Nat) (x : Port) : (s.setPort p x).extLog = s.extLog := rfl
@[simp] theorem State.setPort_fabLog (p : Nat) (x : Port) : (s.setPort p x).fabLog = s.fabLog := rfl
@[simp] theorem State.setPort_wakeLog (p : Nat) (x : Port) : (s.setPort p x).wakeLog = s.wakeLog := rfl
@[simp] theorem State.setPort_siloLog (p : Nat) (x : Port) : (s.setPort p x).siloLog = s.siloLog := rfl
@[simp] theorem State.setPort_out (p : Nat) (x : Port) : (s.setPort p x).out = s.out := rfl
@[simp] theorem State.setPort_free (p : Nat) (x : Port) : (s.setPort p x).free = s.free := rfl
@[simp] theorem State.setPort_pending (p : Nat) (x : Port) : (s.setPort p x).pending = s.pending := rfl
@[simp] theorem State.setPort_reg (p : Nat) (x : Port) (k' : Nat) : (s.setPort p x).reg k' = s.reg k' := rfl
@[simp] theorem State.setPort_cnt64 (p : Nat) (x : Port) (k' : Nat) : (s.setPort p x).cnt64 k' = s.cnt64 k' := rfl
@[simp] theorem State.setPort_quay (p : Nat) (x : Port) (q' : Nat) : (s.setPort p x).quay q' = s.quay q' := rfl
@[simp] theorem State.setPort_chan (p : Nat) (x : Port) (c' : Nat) : (s.setPort p x).chan c' = s.chan c' := rfl
theorem State.setChan_frame (c : Nat) (x : Chan) : s.setChan c x = { s with chans := (s.setChan c x).chans } := rfl
@[simp] theorem State.setChan_regs (c : Nat) (x : Chan) : (s.setChan c x).regs = s.regs := rfl
@[simp] theorem State.setChan_c64 (c : Nat) (x : Chan) : (s.setChan c x).c64 = s.c64 := rfl
@[simp] theorem State.setChan_latch (c : Nat) (x : Chan) : (s.setChan c x).latch = s.latch := rfl
@[simp] theorem State.setChan_staged (c : Nat) (x : Chan) : (s.setChan c x).staged = s.staged := rfl
@[simp] theorem State.setChan_locked (c : Nat) (x : Chan) : (s.setChan c x).locked = s.locked := rfl
@[simp] theorem State.setChan_quays (c : Nat) (x : Chan) : (s.setChan c x).quays = s.quays := rfl
@[simp] theorem State.setChan_ports (c : Nat) (x : Chan) : (s.setChan c x).ports = s.ports := rfl
@[simp] theorem State.setChan_time (c : Nat) (x : Chan) : (s.setChan c x).time = s.time := rfl
@[simp] theorem State.setChan_tide (c : Nat) (x : Chan) : (s.setChan c x).tide = s.tide := rfl
@[simp] theorem State.setChan_stack (c : Nat) (x : Chan) : (s.setChan c x).stack = s.stack := rfl
@[simp] theorem State.setChan_fabric (c : Nat) (x : Chan) : (s.setChan c x).fabric = s.fabric := rfl
@[simp] theorem State.setChan_serve (c : Nat) (x : Chan) : (s.setChan c x).serve = s.serve := rfl
@[simp] theorem State.setChan_silo (c : Nat) (x : Chan) : (s.setChan c x).silo = s.silo := rfl
@[simp] theorem State.setChan_power (c : Nat) (x : Chan) : (s.setChan c x).power = s.power := rfl
@[simp] theorem State.setChan_board (c : Nat) (x : Chan) : (s.setChan c x).board = s.board := rfl
@[simp] theorem State.setChan_fuses (c : Nat) (x : Chan) : (s.setChan c x).fuses = s.fuses := rfl
@[simp] theorem State.setChan_qen (c : Nat) (x : Chan) : (s.setChan c x).qen = s.qen := rfl
@[simp] theorem State.setChan_qspare (c : Nat) (x : Chan) : (s.setChan c x).qspare = s.qspare := rfl
@[simp] theorem State.setChan_rbad (c : Nat) (x : Chan) : (s.setChan c x).rbad = s.rbad := rfl
@[simp] theorem State.setChan_pbad (c : Nat) (x : Chan) : (s.setChan c x).pbad = s.pbad := rfl
@[simp] theorem State.setChan_distValid (c : Nat) (x : Chan) : (s.setChan c x).distValid = s.distValid := rfl
@[simp] theorem State.setChan_chartBuf (c : Nat) (x : Chan) : (s.setChan c x).chartBuf = s.chartBuf := rfl
@[simp] theorem State.setChan_windows (c : Nat) (x : Chan) : (s.setChan c x).windows = s.windows := rfl
@[simp] theorem State.setChan_eccLog (c : Nat) (x : Chan) : (s.setChan c x).eccLog = s.eccLog := rfl
@[simp] theorem State.setChan_extLog (c : Nat) (x : Chan) : (s.setChan c x).extLog = s.extLog := rfl
@[simp] theorem State.setChan_fabLog (c : Nat) (x : Chan) : (s.setChan c x).fabLog = s.fabLog := rfl
@[simp] theorem State.setChan_wakeLog (c : Nat) (x : Chan) : (s.setChan c x).wakeLog = s.wakeLog := rfl
@[simp] theorem State.setChan_siloLog (c : Nat) (x : Chan) : (s.setChan c x).siloLog = s.siloLog := rfl
@[simp] theorem State.setChan_out (c : Nat) (x : Chan) : (s.setChan c x).out = s.out := rfl
@[simp] theorem State.setChan_free (c : Nat) (x : Chan) : (s.setChan c x).free = s.free := rfl
@[simp] theorem State.setChan_pending (c : Nat) (x : Chan) : (s.setChan c x).pending = s.pending := rfl
@[simp] theorem State.setChan_reg (c : Nat) (x : Chan) (k' : Nat) : (s.setChan c x).reg k' = s.reg k' := rfl
@[simp] theorem State.setChan_cnt64 (c : Nat) (x : Chan) (k' : Nat) : (s.setChan c x).cnt64 k' = s.cnt64 k' := rfl
@[simp] theorem State.setChan_quay (c : Nat) (x : Chan) (q' : Nat) : (s.setChan c x).quay q' = s.quay q' := rfl
@[simp] theorem State.setChan_port (c : Nat) (x : Chan) (p' : Nat) : (s.setChan c x).port p' = s.port p' := rfl
theorem State.emit_frame (o : Out) : s.emit o = { s with out := (s.emit o).out } := rfl
@[simp] theorem State.emit_regs (o : Out) : (s.emit o).regs = s.regs := rfl
@[simp] theorem State.emit_c64 (o : Out) : (s.emit o).c64 = s.c64 := rfl
@[simp] theorem State.emit_latch (o : Out) : (s.emit o).latch = s.latch := rfl
@[simp] theorem State.emit_staged (o : Out) : (s.emit o).staged = s.staged := rfl
@[simp] theorem State.emit_locked (o : Out) : (s.emit o).locked = s.locked := rfl
@[simp] theorem State.emit_quays (o : Out) : (s.emit o).quays = s.quays := rfl
@[simp] theorem State.emit_ports (o : Out) : (s.emit o).ports = s.ports := rfl
@[simp] theorem State.emit_chans (o : Out) : (s.emit o).chans = s.chans := rfl
@[simp] theorem State.emit_time (o : Out) : (s.emit o).time = s.time := rfl
@[simp] theorem State.emit_tide (o : Out) : (s.emit o).tide = s.tide := rfl
@[simp] theorem State.emit_stack (o : Out) : (s.emit o).stack = s.stack := rfl
@[simp] theorem State.emit_fabric (o : Out) : (s.emit o).fabric = s.fabric := rfl
@[simp] theorem State.emit_serve (o : Out) : (s.emit o).serve = s.serve := rfl
@[simp] theorem State.emit_silo (o : Out) : (s.emit o).silo = s.silo := rfl
@[simp] theorem State.emit_power (o : Out) : (s.emit o).power = s.power := rfl
@[simp] theorem State.emit_board (o : Out) : (s.emit o).board = s.board := rfl
@[simp] theorem State.emit_fuses (o : Out) : (s.emit o).fuses = s.fuses := rfl
@[simp] theorem State.emit_qen (o : Out) : (s.emit o).qen = s.qen := rfl
@[simp] theorem State.emit_qspare (o : Out) : (s.emit o).qspare = s.qspare := rfl
@[simp] theorem State.emit_rbad (o : Out) : (s.emit o).rbad = s.rbad := rfl
@[simp] theorem State.emit_pbad (o : Out) : (s.emit o).pbad = s.pbad := rfl
@[simp] theorem State.emit_distValid (o : Out) : (s.emit o).distValid = s.distValid := rfl
@[simp] theorem State.emit_chartBuf (o : Out) : (s.emit o).chartBuf = s.chartBuf := rfl
@[simp] theorem State.emit_windows (o : Out) : (s.emit o).windows = s.windows := rfl
@[simp] theorem State.emit_eccLog (o : Out) : (s.emit o).eccLog = s.eccLog := rfl
@[simp] theorem State.emit_extLog (o : Out) : (s.emit o).extLog = s.extLog := rfl
@[simp] theorem State.emit_fabLog (o : Out) : (s.emit o).fabLog = s.fabLog := rfl
@[simp] theorem State.emit_wakeLog (o : Out) : (s.emit o).wakeLog = s.wakeLog := rfl
@[simp] theorem State.emit_siloLog (o : Out) : (s.emit o).siloLog = s.siloLog := rfl
@[simp] theorem State.emit_free (o : Out) : (s.emit o).free = s.free := rfl
@[simp] theorem State.emit_pending (o : Out) : (s.emit o).pending = s.pending := rfl
@[simp] theorem State.emit_reg (o : Out) (k' : Nat) : (s.emit o).reg k' = s.reg k' := rfl
@[simp] theorem State.emit_cnt64 (o : Out) (k' : Nat) : (s.emit o).cnt64 k' = s.cnt64 k' := rfl
@[simp] theorem State.emit_quay (o : Out) (q' : Nat) : (s.emit o).quay q' = s.quay q' := rfl
@[simp] theorem State.emit_port (o : Out) (p' : Nat) : (s.emit o).port p' = s.port p' := rfl
@[simp] theorem State.emit_chan (o : Out) (c' : Nat) : (s.emit o).chan c' = s.chan c' := rfl
theorem State.useFree_frame : s.useFree = { s with free := s.useFree.free } := rfl
@[simp] theorem State.useFree_regs : s.useFree.regs = s.regs := rfl
@[simp] theorem State.useFree_c64 : s.useFree.c64 = s.c64 := rfl
@[simp] theorem State.useFree_latch : s.useFree.latch = s.latch := rfl
@[simp] theorem State.useFree_staged : s.useFree.staged = s.staged := rfl
@[simp] theorem State.useFree_locked : s.useFree.locked = s.locked := rfl
@[simp] theorem State.useFree_quays : s.useFree.quays = s.quays := rfl
@[simp] theorem State.useFree_ports : s.useFree.ports = s.ports := rfl
@[simp] theorem State.useFree_chans : s.useFree.chans = s.chans := rfl
@[simp] theorem State.useFree_time : s.useFree.time = s.time := rfl
@[simp] theorem State.useFree_tide : s.useFree.tide = s.tide := rfl
@[simp] theorem State.useFree_stack : s.useFree.stack = s.stack := rfl
@[simp] theorem State.useFree_fabric : s.useFree.fabric = s.fabric := rfl
@[simp] theorem State.useFree_serve : s.useFree.serve = s.serve := rfl
@[simp] theorem State.useFree_silo : s.useFree.silo = s.silo := rfl
@[simp] theorem State.useFree_power : s.useFree.power = s.power := rfl
@[simp] theorem State.useFree_board : s.useFree.board = s.board := rfl
@[simp] theorem State.useFree_fuses : s.useFree.fuses = s.fuses := rfl
@[simp] theorem State.useFree_qen : s.useFree.qen = s.qen := rfl
@[simp] theorem State.useFree_qspare : s.useFree.qspare = s.qspare := rfl
@[simp] theorem State.useFree_rbad : s.useFree.rbad = s.rbad := rfl
@[simp] theorem State.useFree_pbad : s.useFree.pbad = s.pbad := rfl
@[simp] theorem State.useFree_distValid : s.useFree.distValid = s.distValid := rfl
@[simp] theorem State.useFree_chartBuf : s.useFree.chartBuf = s.chartBuf := rfl
@[simp] theorem State.useFree_windows : s.useFree.windows = s.windows := rfl
@[simp] theorem State.useFree_eccLog : s.useFree.eccLog = s.eccLog := rfl
@[simp] theorem State.useFree_extLog : s.useFree.extLog = s.extLog := rfl
@[simp] theorem State.useFree_fabLog : s.useFree.fabLog = s.fabLog := rfl
@[simp] theorem State.useFree_wakeLog : s.useFree.wakeLog = s.wakeLog := rfl
@[simp] theorem State.useFree_siloLog : s.useFree.siloLog = s.siloLog := rfl
@[simp] theorem State.useFree_out : s.useFree.out = s.out := rfl
@[simp] theorem State.useFree_pending : s.useFree.pending = s.pending := rfl
@[simp] theorem State.useFree_reg (k' : Nat) : s.useFree.reg k' = s.reg k' := rfl
@[simp] theorem State.useFree_cnt64 (k' : Nat) : s.useFree.cnt64 k' = s.cnt64 k' := rfl
@[simp] theorem State.useFree_quay (q' : Nat) : s.useFree.quay q' = s.quay q' := rfl
@[simp] theorem State.useFree_port (p' : Nat) : s.useFree.port p' = s.port p' := rfl
@[simp] theorem State.useFree_chan (c' : Nat) : s.useFree.chan c' = s.chan c' := rfl
theorem State.setMem_frame (m : Mem) : s.setMem m = { s with stack := (s.setMem m).stack } := rfl
@[simp] theorem State.setMem_regs (m : Mem) : (s.setMem m).regs = s.regs := rfl
@[simp] theorem State.setMem_c64 (m : Mem) : (s.setMem m).c64 = s.c64 := rfl
@[simp] theorem State.setMem_latch (m : Mem) : (s.setMem m).latch = s.latch := rfl
@[simp] theorem State.setMem_staged (m : Mem) : (s.setMem m).staged = s.staged := rfl
@[simp] theorem State.setMem_locked (m : Mem) : (s.setMem m).locked = s.locked := rfl
@[simp] theorem State.setMem_quays (m : Mem) : (s.setMem m).quays = s.quays := rfl
@[simp] theorem State.setMem_ports (m : Mem) : (s.setMem m).ports = s.ports := rfl
@[simp] theorem State.setMem_chans (m : Mem) : (s.setMem m).chans = s.chans := rfl
@[simp] theorem State.setMem_time (m : Mem) : (s.setMem m).time = s.time := rfl
@[simp] theorem State.setMem_tide (m : Mem) : (s.setMem m).tide = s.tide := rfl
@[simp] theorem State.setMem_fabric (m : Mem) : (s.setMem m).fabric = s.fabric := rfl
@[simp] theorem State.setMem_serve (m : Mem) : (s.setMem m).serve = s.serve := rfl
@[simp] theorem State.setMem_silo (m : Mem) : (s.setMem m).silo = s.silo := rfl
@[simp] theorem State.setMem_power (m : Mem) : (s.setMem m).power = s.power := rfl
@[simp] theorem State.setMem_board (m : Mem) : (s.setMem m).board = s.board := rfl
@[simp] theorem State.setMem_fuses (m : Mem) : (s.setMem m).fuses = s.fuses := rfl
@[simp] theorem State.setMem_qen (m : Mem) : (s.setMem m).qen = s.qen := rfl
@[simp] theorem State.setMem_qspare (m : Mem) : (s.setMem m).qspare = s.qspare := rfl
@[simp] theorem State.setMem_rbad (m : Mem) : (s.setMem m).rbad = s.rbad := rfl
@[simp] theorem State.setMem_pbad (m : Mem) : (s.setMem m).pbad = s.pbad := rfl
@[simp] theorem State.setMem_distValid (m : Mem) : (s.setMem m).distValid = s.distValid := rfl
@[simp] theorem State.setMem_chartBuf (m : Mem) : (s.setMem m).chartBuf = s.chartBuf := rfl
@[simp] theorem State.setMem_windows (m : Mem) : (s.setMem m).windows = s.windows := rfl
@[simp] theorem State.setMem_eccLog (m : Mem) : (s.setMem m).eccLog = s.eccLog := rfl
@[simp] theorem State.setMem_extLog (m : Mem) : (s.setMem m).extLog = s.extLog := rfl
@[simp] theorem State.setMem_fabLog (m : Mem) : (s.setMem m).fabLog = s.fabLog := rfl
@[simp] theorem State.setMem_wakeLog (m : Mem) : (s.setMem m).wakeLog = s.wakeLog := rfl
@[simp] theorem State.setMem_siloLog (m : Mem) : (s.setMem m).siloLog = s.siloLog := rfl
@[simp] theorem State.setMem_out (m : Mem) : (s.setMem m).out = s.out := rfl
@[simp] theorem State.setMem_free (m : Mem) : (s.setMem m).free = s.free := rfl
@[simp] theorem State.setMem_pending (m : Mem) : (s.setMem m).pending = s.pending := rfl
@[simp] theorem State.setMem_reg (m : Mem) (k' : Nat) : (s.setMem m).reg k' = s.reg k' := rfl
@[simp] theorem State.setMem_cnt64 (m : Mem) (k' : Nat) : (s.setMem m).cnt64 k' = s.cnt64 k' := rfl
@[simp] theorem State.setMem_quay (m : Mem) (q' : Nat) : (s.setMem m).quay q' = s.quay q' := rfl
@[simp] theorem State.setMem_port (m : Mem) (p' : Nat) : (s.setMem m).port p' = s.port p' := rfl
@[simp] theorem State.setMem_chan (m : Mem) (c' : Nat) : (s.setMem m).chan c' = s.chan c' := rfl
theorem State.setEcc_frame (e : Tab EccMark) : s.setEcc e = { s with stack := (s.setEcc e).stack } := rfl
@[simp] theorem State.setEcc_regs (e : Tab EccMark) : (s.setEcc e).regs = s.regs := rfl
@[simp] theorem State.setEcc_c64 (e : Tab EccMark) : (s.setEcc e).c64 = s.c64 := rfl
@[simp] theorem State.setEcc_latch (e : Tab EccMark) : (s.setEcc e).latch = s.latch := rfl
@[simp] theorem State.setEcc_staged (e : Tab EccMark) : (s.setEcc e).staged = s.staged := rfl
@[simp] theorem State.setEcc_locked (e : Tab EccMark) : (s.setEcc e).locked = s.locked := rfl
@[simp] theorem State.setEcc_quays (e : Tab EccMark) : (s.setEcc e).quays = s.quays := rfl
@[simp] theorem State.setEcc_ports (e : Tab EccMark) : (s.setEcc e).ports = s.ports := rfl
@[simp] theorem State.setEcc_chans (e : Tab EccMark) : (s.setEcc e).chans = s.chans := rfl
@[simp] theorem State.setEcc_time (e : Tab EccMark) : (s.setEcc e).time = s.time := rfl
@[simp] theorem State.setEcc_tide (e : Tab EccMark) : (s.setEcc e).tide = s.tide := rfl
@[simp] theorem State.setEcc_fabric (e : Tab EccMark) : (s.setEcc e).fabric = s.fabric := rfl
@[simp] theorem State.setEcc_serve (e : Tab EccMark) : (s.setEcc e).serve = s.serve := rfl
@[simp] theorem State.setEcc_silo (e : Tab EccMark) : (s.setEcc e).silo = s.silo := rfl
@[simp] theorem State.setEcc_power (e : Tab EccMark) : (s.setEcc e).power = s.power := rfl
@[simp] theorem State.setEcc_board (e : Tab EccMark) : (s.setEcc e).board = s.board := rfl
@[simp] theorem State.setEcc_fuses (e : Tab EccMark) : (s.setEcc e).fuses = s.fuses := rfl
@[simp] theorem State.setEcc_qen (e : Tab EccMark) : (s.setEcc e).qen = s.qen := rfl
@[simp] theorem State.setEcc_qspare (e : Tab EccMark) : (s.setEcc e).qspare = s.qspare := rfl
@[simp] theorem State.setEcc_rbad (e : Tab EccMark) : (s.setEcc e).rbad = s.rbad := rfl
@[simp] theorem State.setEcc_pbad (e : Tab EccMark) : (s.setEcc e).pbad = s.pbad := rfl
@[simp] theorem State.setEcc_distValid (e : Tab EccMark) : (s.setEcc e).distValid = s.distValid := rfl
@[simp] theorem State.setEcc_chartBuf (e : Tab EccMark) : (s.setEcc e).chartBuf = s.chartBuf := rfl
@[simp] theorem State.setEcc_windows (e : Tab EccMark) : (s.setEcc e).windows = s.windows := rfl
@[simp] theorem State.setEcc_eccLog (e : Tab EccMark) : (s.setEcc e).eccLog = s.eccLog := rfl
@[simp] theorem State.setEcc_extLog (e : Tab EccMark) : (s.setEcc e).extLog = s.extLog := rfl
@[simp] theorem State.setEcc_fabLog (e : Tab EccMark) : (s.setEcc e).fabLog = s.fabLog := rfl
@[simp] theorem State.setEcc_wakeLog (e : Tab EccMark) : (s.setEcc e).wakeLog = s.wakeLog := rfl
@[simp] theorem State.setEcc_siloLog (e : Tab EccMark) : (s.setEcc e).siloLog = s.siloLog := rfl
@[simp] theorem State.setEcc_out (e : Tab EccMark) : (s.setEcc e).out = s.out := rfl
@[simp] theorem State.setEcc_free (e : Tab EccMark) : (s.setEcc e).free = s.free := rfl
@[simp] theorem State.setEcc_pending (e : Tab EccMark) : (s.setEcc e).pending = s.pending := rfl
@[simp] theorem State.setEcc_reg (e : Tab EccMark) (k' : Nat) : (s.setEcc e).reg k' = s.reg k' := rfl
@[simp] theorem State.setEcc_cnt64 (e : Tab EccMark) (k' : Nat) : (s.setEcc e).cnt64 k' = s.cnt64 k' := rfl
@[simp] theorem State.setEcc_quay (e : Tab EccMark) (q' : Nat) : (s.setEcc e).quay q' = s.quay q' := rfl
@[simp] theorem State.setEcc_port (e : Tab EccMark) (p' : Nat) : (s.setEcc e).port p' = s.port p' := rfl
@[simp] theorem State.setEcc_chan (e : Tab EccMark) (c' : Nat) : (s.setEcc e).chan c' = s.chan c' := rfl
theorem State.variance_frame (b : Nat) : s.variance b = { s with tide := (s.variance b).tide } := rfl
@[simp] theorem State.variance_regs (b : Nat) : (s.variance b).regs = s.regs := rfl
@[simp] theorem State.variance_c64 (b : Nat) : (s.variance b).c64 = s.c64 := rfl
@[simp] theorem State.variance_latch (b : Nat) : (s.variance b).latch = s.latch := rfl
@[simp] theorem State.variance_staged (b : Nat) : (s.variance b).staged = s.staged := rfl
@[simp] theorem State.variance_locked (b : Nat) : (s.variance b).locked = s.locked := rfl
@[simp] theorem State.variance_quays (b : Nat) : (s.variance b).quays = s.quays := rfl
@[simp] theorem State.variance_ports (b : Nat) : (s.variance b).ports = s.ports := rfl
@[simp] theorem State.variance_chans (b : Nat) : (s.variance b).chans = s.chans := rfl
@[simp] theorem State.variance_time (b : Nat) : (s.variance b).time = s.time := rfl
@[simp] theorem State.variance_stack (b : Nat) : (s.variance b).stack = s.stack := rfl
@[simp] theorem State.variance_fabric (b : Nat) : (s.variance b).fabric = s.fabric := rfl
@[simp] theorem State.variance_serve (b : Nat) : (s.variance b).serve = s.serve := rfl
@[simp] theorem State.variance_silo (b : Nat) : (s.variance b).silo = s.silo := rfl
@[simp] theorem State.variance_power (b : Nat) : (s.variance b).power = s.power := rfl
@[simp] theorem State.variance_board (b : Nat) : (s.variance b).board = s.board := rfl
@[simp] theorem State.variance_fuses (b : Nat) : (s.variance b).fuses = s.fuses := rfl
@[simp] theorem State.variance_qen (b : Nat) : (s.variance b).qen = s.qen := rfl
@[simp] theorem State.variance_qspare (b : Nat) : (s.variance b).qspare = s.qspare := rfl
@[simp] theorem State.variance_rbad (b : Nat) : (s.variance b).rbad = s.rbad := rfl
@[simp] theorem State.variance_pbad (b : Nat) : (s.variance b).pbad = s.pbad := rfl
@[simp] theorem State.variance_distValid (b : Nat) : (s.variance b).distValid = s.distValid := rfl
@[simp] theorem State.variance_chartBuf (b : Nat) : (s.variance b).chartBuf = s.chartBuf := rfl
@[simp] theorem State.variance_windows (b : Nat) : (s.variance b).windows = s.windows := rfl
@[simp] theorem State.variance_eccLog (b : Nat) : (s.variance b).eccLog = s.eccLog := rfl
@[simp] theorem State.variance_extLog (b : Nat) : (s.variance b).extLog = s.extLog := rfl
@[simp] theorem State.variance_fabLog (b : Nat) : (s.variance b).fabLog = s.fabLog := rfl
@[simp] theorem State.variance_wakeLog (b : Nat) : (s.variance b).wakeLog = s.wakeLog := rfl
@[simp] theorem State.variance_siloLog (b : Nat) : (s.variance b).siloLog = s.siloLog := rfl
@[simp] theorem State.variance_out (b : Nat) : (s.variance b).out = s.out := rfl
@[simp] theorem State.variance_free (b : Nat) : (s.variance b).free = s.free := rfl
@[simp] theorem State.variance_pending (b : Nat) : (s.variance b).pending = s.pending := rfl
@[simp] theorem State.variance_reg (b : Nat) (k' : Nat) : (s.variance b).reg k' = s.reg k' := rfl
@[simp] theorem State.variance_cnt64 (b : Nat) (k' : Nat) : (s.variance b).cnt64 k' = s.cnt64 k' := rfl
@[simp] theorem State.variance_quay (b : Nat) (q' : Nat) : (s.variance b).quay q' = s.quay q' := rfl
@[simp] theorem State.variance_port (b : Nat) (p' : Nat) : (s.variance b).port p' = s.port p' := rfl
@[simp] theorem State.variance_chan (b : Nat) (c' : Nat) : (s.variance b).chan c' = s.chan c' := rfl

end Sys2Proof.Machine
end

