-- ==== Sys2Proof/Laws/Ops.lean ====
section
/-! SUPPORT. What each shared operation can do: the one equation that names every field it may write, the reads it
leaves, and what it does to the registers. Later proofs cite these and never unfold the operation. -/

namespace Sys2Proof.Machine

variable (s : State)

/-! ### Bits of a register -/

theorem getBits_lt (x : W32) (lo w : Nat) : getBits x lo w < 2 ^ w := Nat.mod_lt _ (Nat.two_pow_pos w)

/-- Bit i of a register with a field stored: the field's bits inside it, the old bits outside. -/
theorem testBit_putBits (x : W32) (lo w v i : Nat) (hi : i < 32) :
    (putBits x lo w v).toNat.testBit i =
      if lo ≤ i ∧ i < lo + w then v.testBit (i - lo) else x.toNat.testBit i := by
  simp only [putBits, BitVec.testBit_toNat, BitVec.getLsbD_or, BitVec.getLsbD_and, BitVec.getLsbD_not,
    BitVec.getLsbD_ofNat, Nat.testBit_shiftLeft, Nat.testBit_two_pow_sub_one, hi, decide_true, Bool.true_and]
  by_cases h1 : lo ≤ i
  · by_cases h2 : i - lo < w
    · have : i < lo + w := by omega
      simp [h1, h2, this]
    · simp only [h1, h2, decide_true, decide_false, Bool.true_and, Bool.and_false, Bool.not_false, Bool.and_true, Bool.or_false, true_and]
      rw [if_neg (by omega)]
  · simp [h1]

/-- A field that is stored reads back (modulo its width). -/
theorem getBits_putBits (x : W32) (lo w v : Nat) (h : lo + w ≤ 32) : getBits (putBits x lo w v) lo w = v % 2 ^ w := by
  apply Nat.eq_of_testBit_eq
  intro i
  simp only [getBits, fld, Nat.testBit_mod_two_pow, Nat.testBit_shiftRight]
  by_cases hi : i < w
  · rw [testBit_putBits _ _ _ _ _ (by omega), if_pos (by omega)]
    simp [hi]
  · simp [hi]

/-- A field apart from the one that is stored is unchanged. -/
theorem getBits_putBits_apart (x : W32) (lo w v lo' w' : Nat) (h : lo' + w' ≤ lo ∨ lo + w ≤ lo') :
    getBits (putBits x lo w v) lo' w' = getBits x lo' w' := by
  apply Nat.eq_of_testBit_eq
  intro i
  simp only [getBits, fld, Nat.testBit_mod_two_pow, Nat.testBit_shiftRight]
  by_cases hi : i < w'
  · by_cases h32 : lo' + i < 32
    · rw [testBit_putBits _ _ _ _ _ h32, if_neg (by omega)]
    · have e : ∀ y : W32, y.toNat.testBit (lo' + i) = false := fun y =>
        Nat.testBit_lt_two_pow (Nat.lt_of_lt_of_le y.isLt (Nat.pow_le_pow_right (by decide) (by omega)))
      rw [e, e]
  · simp [hi]

/-! ### Keys -/

@[simp] theorem qkey_inj (q o o' : Nat) : qkey q o = qkey q o' ↔ o = o' := by unfold qkey; omega
@[simp] theorem pkey_inj (p o o' : Nat) : pkey p o = pkey p o' ↔ o = o' := by unfold pkey; omega
@[simp] theorem dkey_inj (c o o' : Nat) : dkey c o = dkey c o' ↔ o = o' := by unfold dkey; omega
@[simp] theorem kMem_inj (o o' : Nat) : kMem o = kMem o' ↔ o = o' := by unfold kMem; omega
@[simp] theorem kChart_inj (o o' : Nat) : kChart o = kChart o' ↔ o = o' := by unfold kChart; omega
@[simp] theorem noteKey_qkey (q o : Nat) : noteKey (qkey q o) = false := by
  unfold noteKey qkey; simp only [Bool.or_eq_false_iff, Bool.and_eq_false_iff, decide_eq_false_iff_not]; omega
@[simp] theorem traceKey_qkey (q o : Nat) : traceKey (qkey q o) = false := by
  unfold traceKey qkey; simp only [Bool.or_eq_false_iff, beq_eq_false_iff_ne]; omega
theorem kNoteStat_lt {i : Nat} (h : i < 256) : noteKey (kNoteStat (i / 16)) = true := by
  unfold noteKey kNoteStat; simp only [Bool.or_eq_true, Bool.and_eq_true, decide_eq_true_eq]; omega

/-! ### Notification -/

/-- A vector raised may write pending bits and send a message (R426). -/
theorem State.raiseVector_frame (v : Nat) :
    s.raiseVector v = { s with regs := (s.raiseVector v).regs, out := (s.raiseVector v).out } := by
  unfold State.raiseVector; split; rfl; split <;> rfl

@[simp] theorem State.raiseVector_c64 (v : Nat) : (s.raiseVector v).c64 = s.c64 :=
  (congrArg State.c64 (s.raiseVector_frame v) :)
@[simp] theorem State.raiseVector_latch (v : Nat) : (s.raiseVector v).latch = s.latch :=
  (congrArg State.latch (s.raiseVector_frame v) :)
@[simp] theorem State.raiseVector_staged (v : Nat) : (s.raiseVector v).staged = s.staged :=
  (congrArg State.staged (s.raiseVector_frame v) :)
@[simp] theorem State.raiseVector_locked (v : Nat) : (s.raiseVector v).locked = s.locked :=
  (congrArg State.locked (s.raiseVector_frame v) :)
@[simp] theorem State.raiseVector_quays (v : Nat) : (s.raiseVector v).quays = s.quays :=
  (congrArg State.quays (s.raiseVector_frame v) :)
@[simp] theorem State.raiseVector_ports (v : Nat) : (s.raiseVector v).ports = s.ports :=
  (congrArg State.ports (s.raiseVector_frame v) :)
@[simp] theorem State.raiseVector_chans (v : Nat) : (s.raiseVector v).chans = s.chans :=
  (congrArg State.chans (s.raiseVector_frame v) :)
@[simp] theorem State.raiseVector_time (v : Nat) : (s.raiseVector v).time = s.time :=
  (congrArg State.time (s.raiseVector_frame v) :)
@[simp] theorem State.raiseVector_tide (v : Nat) : (s.raiseVector v).tide = s.tide :=
  (congrArg State.tide (s.raiseVector_frame v) :)
@[simp] theorem State.raiseVector_stack (v : Nat) : (s.raiseVector v).stack = s.stack :=
  (congrArg State.stack (s.raiseVector_frame v) :)
@[simp] theorem State.raiseVector_fabric (v : Nat) : (s.raiseVector v).fabric = s.fabric :=
  (congrArg State.fabric (s.raiseVector_frame v) :)
@[simp] theorem State.raiseVector_serve (v : Nat) : (s.raiseVector v).serve = s.serve :=
  (congrArg State.serve (s.raiseVector_frame v) :)
@[simp] theorem State.raiseVector_silo (v : Nat) : (s.raiseVector v).silo = s.silo :=
  (congrArg State.silo (s.raiseVector_frame v) :)
@[simp] theorem State.raiseVector_power (v : Nat) : (s.raiseVector v).power = s.power :=
  (congrArg State.power (s.raiseVector_frame v) :)
@[simp] theorem State.raiseVector_board (v : Nat) : (s.raiseVector v).board = s.board :=
  (congrArg State.board (s.raiseVector_frame v) :)
@[simp] theorem State.raiseVector_fuses (v : Nat) : (s.raiseVector v).fuses = s.fuses :=
  (congrArg State.fuses (s.raiseVector_frame v) :)
@[simp] theorem State.raiseVector_qen (v : Nat) : (s.raiseVector v).qen = s.qen :=
  (congrArg State.qen (s.raiseVector_frame v) :)
@[simp] theorem State.raiseVector_qspare (v : Nat) : (s.raiseVector v).qspare = s.qspare :=
  (congrArg State.qspare (s.raiseVector_frame v) :)
@[simp] theorem State.raiseVector_rbad (v : Nat) : (s.raiseVector v).rbad = s.rbad :=
  (congrArg State.rbad (s.raiseVector_frame v) :)
@[simp] theorem State.raiseVector_pbad (v : Nat) : (s.raiseVector v).pbad = s.pbad :=
  (congrArg State.pbad (s.raiseVector_frame v) :)
@[simp] theorem State.raiseVector_distValid (v : Nat) : (s.raiseVector v).distValid = s.distValid :=
  (congrArg State.distValid (s.raiseVector_frame v) :)
@[simp] theorem State.raiseVector_chartBuf (v : Nat) : (s.raiseVector v).chartBuf = s.chartBuf :=
  (congrArg State.chartBuf (s.raiseVector_frame v) :)
@[simp] theorem State.raiseVector_windows (v : Nat) : (s.raiseVector v).windows = s.windows :=
  (congrArg State.windows (s.raiseVector_frame v) :)
@[simp] theorem State.raiseVector_eccLog (v : Nat) : (s.raiseVector v).eccLog = s.eccLog :=
  (congrArg State.eccLog (s.raiseVector_frame v) :)
@[simp] theorem State.raiseVector_extLog (v : Nat) : (s.raiseVector v).extLog = s.extLog :=
  (congrArg State.extLog (s.raiseVector_frame v) :)
@[simp] theorem State.raiseVector_fabLog (v : Nat) : (s.raiseVector v).fabLog = s.fabLog :=
  (congrArg State.fabLog (s.raiseVector_frame v) :)
@[simp] theorem State.raiseVector_wakeLog (v : Nat) : (s.raiseVector v).wakeLog = s.wakeLog :=
  (congrArg State.wakeLog (s.raiseVector_frame v) :)
@[simp] theorem State.raiseVector_siloLog (v : Nat) : (s.raiseVector v).siloLog = s.siloLog :=
  (congrArg State.siloLog (s.raiseVector_frame v) :)
@[simp] theorem State.raiseVector_free (v : Nat) : (s.raiseVector v).free = s.free :=
  (congrArg State.free (s.raiseVector_frame v) :)
@[simp] theorem State.raiseVector_pending (v : Nat) : (s.raiseVector v).pending = s.pending :=
  (congrArg State.pending (s.raiseVector_frame v) :)
@[simp] theorem State.raiseVector_cnt64 (v : Nat) (k' : Nat) : (s.raiseVector v).cnt64 k' = s.cnt64 k' :=
 (congrArg (fun s => State.cnt64 s k') (s.raiseVector_frame v) :)
@[simp] theorem State.raiseVector_quay (v : Nat) (q' : Nat) : (s.raiseVector v).quay q' = s.quay q' :=
 (congrArg (fun s => State.quay s q') (s.raiseVector_frame v) :)
@[simp] theorem State.raiseVector_port (v : Nat) (p' : Nat) : (s.raiseVector v).port p' = s.port p' :=
 (congrArg (fun s => State.port s p') (s.raiseVector_frame v) :)
@[simp] theorem State.raiseVector_chan (v : Nat) (c' : Nat) : (s.raiseVector v).chan c' = s.chan c' :=
 (congrArg (fun s => State.chan s c') (s.raiseVector_frame v) :)

theorem State.raiseVector_reg {v : Nat} (hv : v < 2048) {k : Nat} (hk : noteKey k = false) :
    (s.raiseVector v).reg k = s.reg k := by
  unfold State.raiseVector
  split
  · rfl
  · split
    · have : 0x90000 + 4 * (v / 32) ≠ k := by
        rintro rfl
        simp only [noteKey, Bool.or_eq_false_iff, Bool.and_eq_false_iff, decide_eq_false_iff_not] at hk
        omega
      simp [this]
    · rfl

/-- A notification source may write its status, a pending bit and a message (R425, R426). -/
theorem State.note_frame (i : Nat) :
    s.note i = { s with regs := (s.note i).regs, out := (s.note i).out } := by
  unfold State.note
  dsimp only
  split
  · rw [State.raiseVector_frame]; rfl
  · rfl

@[simp] theorem State.note_c64 (i : Nat) : (s.note i).c64 = s.c64 :=
  (congrArg State.c64 (s.note_frame i) :)
@[simp] theorem State.note_latch (i : Nat) : (s.note i).latch = s.latch :=
  (congrArg State.latch (s.note_frame i) :)
@[simp] theorem State.note_staged (i : Nat) : (s.note i).staged = s.staged :=
  (congrArg State.staged (s.note_frame i) :)
@[simp] theorem State.note_locked (i : Nat) : (s.note i).locked = s.locked :=
  (congrArg State.locked (s.note_frame i) :)
@[simp] theorem State.note_quays (i : Nat) : (s.note i).quays = s.quays :=
  (congrArg State.quays (s.note_frame i) :)
@[simp] theorem State.note_ports (i : Nat) : (s.note i).ports = s.ports :=
  (congrArg State.ports (s.note_frame i) :)
@[simp] theorem State.note_chans (i : Nat) : (s.note i).chans = s.chans :=
  (congrArg State.chans (s.note_frame i) :)
@[simp] theorem State.note_time (i : Nat) : (s.note i).time = s.time :=
  (congrArg State.time (s.note_frame i) :)
@[simp] theorem State.note_tide (i : Nat) : (s.note i).tide = s.tide :=
  (congrArg State.tide (s.note_frame i) :)
@[simp] theorem State.note_stack (i : Nat) : (s.note i).stack = s.stack :=
  (congrArg State.stack (s.note_frame i) :)
@[simp] theorem State.note_fabric (i : Nat) : (s.note i).fabric = s.fabric :=
  (congrArg State.fabric (s.note_frame i) :)
@[simp] theorem State.note_serve (i : Nat) : (s.note i).serve = s.serve :=
  (congrArg State.serve (s.note_frame i) :)
@[simp] theorem State.note_silo (i : Nat) : (s.note i).silo = s.silo :=
  (congrArg State.silo (s.note_frame i) :)
@[simp] theorem State.note_power (i : Nat) : (s.note i).power = s.power :=
  (congrArg State.power (s.note_frame i) :)
@[simp] theorem State.note_board (i : Nat) : (s.note i).board = s.board :=
  (congrArg State.board (s.note_frame i) :)
@[simp] theorem State.note_fuses (i : Nat) : (s.note i).fuses = s.fuses :=
  (congrArg State.fuses (s.note_frame i) :)
@[simp] theorem State.note_qen (i : Nat) : (s.note i).qen = s.qen :=
  (congrArg State.qen (s.note_frame i) :)
@[simp] theorem State.note_qspare (i : Nat) : (s.note i).qspare = s.qspare :=
  (congrArg State.qspare (s.note_frame i) :)
@[simp] theorem State.note_rbad (i : Nat) : (s.note i).rbad = s.rbad :=
  (congrArg State.rbad (s.note_frame i) :)
@[simp] theorem State.note_pbad (i : Nat) : (s.note i).pbad = s.pbad :=
  (congrArg State.pbad (s.note_frame i) :)
@[simp] theorem State.note_distValid (i : Nat) : (s.note i).distValid = s.distValid :=
  (congrArg State.distValid (s.note_frame i) :)
@[simp] theorem State.note_chartBuf (i : Nat) : (s.note i).chartBuf = s.chartBuf :=
  (congrArg State.chartBuf (s.note_frame i) :)
@[simp] theorem State.note_windows (i : Nat) : (s.note i).windows = s.windows :=
  (congrArg State.windows (s.note_frame i) :)
@[simp] theorem State.note_eccLog (i : Nat) : (s.note i).eccLog = s.eccLog :=
  (congrArg State.eccLog (s.note_frame i) :)
@[simp] theorem State.note_extLog (i : Nat) : (s.note i).extLog = s.extLog :=
  (congrArg State.extLog (s.note_frame i) :)
@[simp] theorem State.note_fabLog (i : Nat) : (s.note i).fabLog = s.fabLog :=
  (congrArg State.fabLog (s.note_frame i) :)
@[simp] theorem State.note_wakeLog (i : Nat) : (s.note i).wakeLog = s.wakeLog :=
  (congrArg State.wakeLog (s.note_frame i) :)
@[simp] theorem State.note_siloLog (i : Nat) : (s.note i).siloLog = s.siloLog :=
  (congrArg State.siloLog (s.note_frame i) :)
@[simp] theorem State.note_free (i : Nat) : (s.note i).free = s.free :=
  (congrArg State.free (s.note_frame i) :)
@[simp] theorem State.note_pending (i : Nat) : (s.note i).pending = s.pending :=
  (congrArg State.pending (s.note_frame i) :)
@[simp] theorem State.note_cnt64 (i : Nat) (k' : Nat) : (s.note i).cnt64 k' = s.cnt64 k' :=
 (congrArg (fun s => State.cnt64 s k') (s.note_frame i) :)
@[simp] theorem State.note_quay (i : Nat) (q' : Nat) : (s.note i).quay q' = s.quay q' :=
 (congrArg (fun s => State.quay s q') (s.note_frame i) :)
@[simp] theorem State.note_port (i : Nat) (p' : Nat) : (s.note i).port p' = s.port p' :=
 (congrArg (fun s => State.port s p') (s.note_frame i) :)
@[simp] theorem State.note_chan (i : Nat) (c' : Nat) : (s.note i).chan c' = s.chan c' :=
 (congrArg (fun s => State.chan s c') (s.note_frame i) :)

/-- A notification source writes no register but NOTE_STATw and the pending bits. -/
@[simp] theorem State.note_reg {i : Nat} (hi : i < 256) {k : Nat} (hk : noteKey k = false) :
    (s.note i).reg k = s.reg k := by
  have h1 : kNoteStat (i / 16) ≠ k := by rintro rfl; simp [kNoteStat_lt hi] at hk
  unfold State.note
  dsimp only
  split
  · rw [State.raiseVector_reg _ (v := State.fieldAt _ _ 0 11) (getBits_lt _ 0 11) hk]; simp [h1]
  · simp [h1]

/-! ### Trace -/

/-- A trace record may write the trace block's counts and host memory (R445). -/
theorem State.trace_frame (src code unit : Nat) (pl : List W32) :
    s.trace src code unit pl = { s with regs := (s.trace src code unit pl).regs, out := (s.trace src code unit pl).out } := by
  unfold State.trace
  split
  · rfl
  · split <;> rfl

@[simp] theorem State.trace_c64 (src code unit : Nat) (pl : List W32) : (s.trace src code unit pl).c64 = s.c64 :=
  (congrArg State.c64 (s.trace_frame src code unit pl) :)
@[simp] theorem State.trace_latch (src code unit : Nat) (pl : List W32) : (s.trace src code unit pl).latch = s.latch :=
  (congrArg State.latch (s.trace_frame src code unit pl) :)
@[simp] theorem State.trace_staged (src code unit : Nat) (pl : List W32) : (s.trace src code unit pl).staged = s.staged :=
  (congrArg State.staged (s.trace_frame src code unit pl) :)
@[simp] theorem State.trace_locked (src code unit : Nat) (pl : List W32) : (s.trace src code unit pl).locked = s.locked :=
  (congrArg State.locked (s.trace_frame src code unit pl) :)
@[simp] theorem State.trace_quays (src code unit : Nat) (pl : List W32) : (s.trace src code unit pl).quays = s.quays :=
  (congrArg State.quays (s.trace_frame src code unit pl) :)
@[simp] theorem State.trace_ports (src code unit : Nat) (pl : List W32) : (s.trace src code unit pl).ports = s.ports :=
  (congrArg State.ports (s.trace_frame src code unit pl) :)
@[simp] theorem State.trace_chans (src code unit : Nat) (pl : List W32) : (s.trace src code unit pl).chans = s.chans :=
  (congrArg State.chans (s.trace_frame src code unit pl) :)
@[simp] theorem State.trace_time (src code unit : Nat) (pl : List W32) : (s.trace src code unit pl).time = s.time :=
  (congrArg State.time (s.trace_frame src code unit pl) :)
@[simp] theorem State.trace_tide (src code unit : Nat) (pl : List W32) : (s.trace src code unit pl).tide = s.tide :=
  (congrArg State.tide (s.trace_frame src code unit pl) :)
@[simp] theorem State.trace_stack (src code unit : Nat) (pl : List W32) : (s.trace src code unit pl).stack = s.stack :=
  (congrArg State.stack (s.trace_frame src code unit pl) :)
@[simp] theorem State.trace_fabric (src code unit : Nat) (pl : List W32) : (s.trace src code unit pl).fabric = s.fabric :=
  (congrArg State.fabric (s.trace_frame src code unit pl) :)
@[simp] theorem State.trace_serve (src code unit : Nat) (pl : List W32) : (s.trace src code unit pl).serve = s.serve :=
  (congrArg State.serve (s.trace_frame src code unit pl) :)
@[simp] theorem State.trace_silo (src code unit : Nat) (pl : List W32) : (s.trace src code unit pl).silo = s.silo :=
  (congrArg State.silo (s.trace_frame src code unit pl) :)
@[simp] theorem State.trace_power (src code unit : Nat) (pl : List W32) : (s.trace src code unit pl).power = s.power :=
  (congrArg State.power (s.trace_frame src code unit pl) :)
@[simp] theorem State.trace_board (src code unit : Nat) (pl : List W32) : (s.trace src code unit pl).board = s.board :=
  (congrArg State.board (s.trace_frame src code unit pl) :)
@[simp] theorem State.trace_fuses (src code unit : Nat) (pl : List W32) : (s.trace src code unit pl).fuses = s.fuses :=
  (congrArg State.fuses (s.trace_frame src code unit pl) :)
@[simp] theorem State.trace_qen (src code unit : Nat) (pl : List W32) : (s.trace src code unit pl).qen = s.qen :=
  (congrArg State.qen (s.trace_frame src code unit pl) :)
@[simp] theorem State.trace_qspare (src code unit : Nat) (pl : List W32) : (s.trace src code unit pl).qspare = s.qspare :=
  (congrArg State.qspare (s.trace_frame src code unit pl) :)
@[simp] theorem State.trace_rbad (src code unit : Nat) (pl : List W32) : (s.trace src code unit pl).rbad = s.rbad :=
  (congrArg State.rbad (s.trace_frame src code unit pl) :)
@[simp] theorem State.trace_pbad (src code unit : Nat) (pl : List W32) : (s.trace src code unit pl).pbad = s.pbad :=
  (congrArg State.pbad (s.trace_frame src code unit pl) :)
@[simp] theorem State.trace_distValid (src code unit : Nat) (pl : List W32) : (s.trace src code unit pl).distValid = s.distValid :=
  (congrArg State.distValid (s.trace_frame src code unit pl) :)
@[simp] theorem State.trace_chartBuf (src code unit : Nat) (pl : List W32) : (s.trace src code unit pl).chartBuf = s.chartBuf :=
  (congrArg State.chartBuf (s.trace_frame src code unit pl) :)
@[simp] theorem State.trace_windows (src code unit : Nat) (pl : List W32) : (s.trace src code unit pl).windows = s.windows :=
  (congrArg State.windows (s.trace_frame src code unit pl) :)
@[simp] theorem State.trace_eccLog (src code unit : Nat) (pl : List W32) : (s.trace src code unit pl).eccLog = s.eccLog :=
  (congrArg State.eccLog (s.trace_frame src code unit pl) :)
@[simp] theorem State.trace_extLog (src code unit : Nat) (pl : List W32) : (s.trace src code unit pl).extLog = s.extLog :=
  (congrArg State.extLog (s.trace_frame src code unit pl) :)
@[simp] theorem State.trace_fabLog (src code unit : Nat) (pl : List W32) : (s.trace src code unit pl).fabLog = s.fabLog :=
  (congrArg State.fabLog (s.trace_frame src code unit pl) :)
@[simp] theorem State.trace_wakeLog (src code unit : Nat) (pl : List W32) : (s.trace src code unit pl).wakeLog = s.wakeLog :=
  (congrArg State.wakeLog (s.trace_frame src code unit pl) :)
@[simp] theorem State.trace_siloLog (src code unit : Nat) (pl : List W32) : (s.trace src code unit pl).siloLog = s.siloLog :=
  (congrArg State.siloLog (s.trace_frame src code unit pl) :)
@[simp] theorem State.trace_free (src code unit : Nat) (pl : List W32) : (s.trace src code unit pl).free = s.free :=
  (congrArg State.free (s.trace_frame src code unit pl) :)
@[simp] theorem State.trace_pending (src code unit : Nat) (pl : List W32) : (s.trace src code unit pl).pending = s.pending :=
  (congrArg State.pending (s.trace_frame src code unit pl) :)
@[simp] theorem State.trace_cnt64 (src code unit : Nat) (pl : List W32) (k' : Nat) : (s.trace src code unit pl).cnt64 k' = s.cnt64 k' :=
 (congrArg (fun s => State.cnt64 s k') (s.trace_frame src code unit pl) :)
@[simp] theorem State.trace_quay (src code unit : Nat) (pl : List W32) (q' : Nat) : (s.trace src code unit pl).quay q' = s.quay q' :=
 (congrArg (fun s => State.quay s q') (s.trace_frame src code unit pl) :)
@[simp] theorem State.trace_port (src code unit : Nat) (pl : List W32) (p' : Nat) : (s.trace src code unit pl).port p' = s.port p' :=
 (congrArg (fun s => State.port s p') (s.trace_frame src code unit pl) :)
@[simp] theorem State.trace_chan (src code unit : Nat) (pl : List W32) (c' : Nat) : (s.trace src code unit pl).chan c' = s.chan c' :=
 (congrArg (fun s => State.chan s c') (s.trace_frame src code unit pl) :)

/-- A trace record writes no register but TRACE_STATUS, TRACE_HEAD and TRACE_DROPPED. -/
@[simp] theorem State.trace_reg (src code unit : Nat) (pl : List W32) {k : Nat} (hk : traceKey k = false) :
    (s.trace src code unit pl).reg k = s.reg k := by
  simp only [traceKey, Bool.or_eq_false_iff, beq_eq_false_iff_ne] at hk
  obtain ⟨⟨h1, h5⟩, h7⟩ := hk
  unfold State.trace kTrace
  split
  · rfl
  · split
    · simp [Ne.symm h1, Ne.symm h7]
    · simp [Ne.symm h5]

/-! ### Error capture -/

/-- An error capture writes HOST_ERR, its capture registers and source 171 (R424). -/
theorem State.hostErr_frame (rq : Req) (code bar addr : Nat) :
    s.hostErr rq code bar addr = { s with regs := (s.hostErr rq code bar addr).regs, c64 := (s.hostErr rq code bar addr).c64, out := (s.hostErr rq code bar addr).out } := by
  unfold State.hostErr
  dsimp only
  apply State.ext <;> first | rfl | (split <;> simp)

@[simp] theorem State.hostErr_latch (rq : Req) (code bar addr : Nat) : (s.hostErr rq code bar addr).latch = s.latch :=
  (congrArg State.latch (s.hostErr_frame rq code bar addr) :)
@[simp] theorem State.hostErr_staged (rq : Req) (code bar addr : Nat) : (s.hostErr rq code bar addr).staged = s.staged :=
  (congrArg State.staged (s.hostErr_frame rq code bar addr) :)
@[simp] theorem State.hostErr_locked (rq : Req) (code bar addr : Nat) : (s.hostErr rq code bar addr).locked = s.locked :=
  (congrArg State.locked (s.hostErr_frame rq code bar addr) :)
@[simp] theorem State.hostErr_quays (rq : Req) (code bar addr : Nat) : (s.hostErr rq code bar addr).quays = s.quays :=
  (congrArg State.quays (s.hostErr_frame rq code bar addr) :)
@[simp] theorem State.hostErr_ports (rq : Req) (code bar addr : Nat) : (s.hostErr rq code bar addr).ports = s.ports :=
  (congrArg State.ports (s.hostErr_frame rq code bar addr) :)
@[simp] theorem State.hostErr_chans (rq : Req) (code bar addr : Nat) : (s.hostErr rq code bar addr).chans = s.chans :=
  (congrArg State.chans (s.hostErr_frame rq code bar addr) :)
@[simp] theorem State.hostErr_time (rq : Req) (code bar addr : Nat) : (s.hostErr rq code bar addr).time = s.time :=
  (congrArg State.time (s.hostErr_frame rq code bar addr) :)
@[simp] theorem State.hostErr_tide (rq : Req) (code bar addr : Nat) : (s.hostErr rq code bar addr).tide = s.tide :=
  (congrArg State.tide (s.hostErr_frame rq code bar addr) :)
@[simp] theorem State.hostErr_stack (rq : Req) (code bar addr : Nat) : (s.hostErr rq code bar addr).stack = s.stack :=
  (congrArg State.stack (s.hostErr_frame rq code bar addr) :)
@[simp] theorem State.hostErr_fabric (rq : Req) (code bar addr : Nat) : (s.hostErr rq code bar addr).fabric = s.fabric :=
  (congrArg State.fabric (s.hostErr_frame rq code bar addr) :)
@[simp] theorem State.hostErr_serve (rq : Req) (code bar addr : Nat) : (s.hostErr rq code bar addr).serve = s.serve :=
  (congrArg State.serve (s.hostErr_frame rq code bar addr) :)
@[simp] theorem State.hostErr_silo (rq : Req) (code bar addr : Nat) : (s.hostErr rq code bar addr).silo = s.silo :=
  (congrArg State.silo (s.hostErr_frame rq code bar addr) :)
@[simp] theorem State.hostErr_power (rq : Req) (code bar addr : Nat) : (s.hostErr rq code bar addr).power = s.power :=
  (congrArg State.power (s.hostErr_frame rq code bar addr) :)
@[simp] theorem State.hostErr_board (rq : Req) (code bar addr : Nat) : (s.hostErr rq code bar addr).board = s.board :=
  (congrArg State.board (s.hostErr_frame rq code bar addr) :)
@[simp] theorem State.hostErr_fuses (rq : Req) (code bar addr : Nat) : (s.hostErr rq code bar addr).fuses = s.fuses :=
  (congrArg State.fuses (s.hostErr_frame rq code bar addr) :)
@[simp] theorem State.hostErr_qen (rq : Req) (code bar addr : Nat) : (s.hostErr rq code bar addr).qen = s.qen :=
  (congrArg State.qen (s.hostErr_frame rq code bar addr) :)
@[simp] theorem State.hostErr_qspare (rq : Req) (code bar addr : Nat) : (s.hostErr rq code bar addr).qspare = s.qspare :=
  (congrArg State.qspare (s.hostErr_frame rq code bar addr) :)
@[simp] theorem State.hostErr_rbad (rq : Req) (code bar addr : Nat) : (s.hostErr rq code bar addr).rbad = s.rbad :=
  (congrArg State.rbad (s.hostErr_frame rq code bar addr) :)
@[simp] theorem State.hostErr_pbad (rq : Req) (code bar addr : Nat) : (s.hostErr rq code bar addr).pbad = s.pbad :=
  (congrArg State.pbad (s.hostErr_frame rq code bar addr) :)
@[simp] theorem State.hostErr_distValid (rq : Req) (code bar addr : Nat) : (s.hostErr rq code bar addr).distValid = s.distValid :=
  (congrArg State.distValid (s.hostErr_frame rq code bar addr) :)
@[simp] theorem State.hostErr_chartBuf (rq : Req) (code bar addr : Nat) : (s.hostErr rq code bar addr).chartBuf = s.chartBuf :=
  (congrArg State.chartBuf (s.hostErr_frame rq code bar addr) :)
@[simp] theorem State.hostErr_windows (rq : Req) (code bar addr : Nat) : (s.hostErr rq code bar addr).windows = s.windows :=
  (congrArg State.windows (s.hostErr_frame rq code bar addr) :)
@[simp] theorem State.hostErr_eccLog (rq : Req) (code bar addr : Nat) : (s.hostErr rq code bar addr).eccLog = s.eccLog :=
  (congrArg State.eccLog (s.hostErr_frame rq code bar addr) :)
@[simp] theorem State.hostErr_extLog (rq : Req) (code bar addr : Nat) : (s.hostErr rq code bar addr).extLog = s.extLog :=
  (congrArg State.extLog (s.hostErr_frame rq code bar addr) :)
@[simp] theorem State.hostErr_fabLog (rq : Req) (code bar addr : Nat) : (s.hostErr rq code bar addr).fabLog = s.fabLog :=
  (congrArg State.fabLog (s.hostErr_frame rq code bar addr) :)
@[simp] theorem State.hostErr_wakeLog (rq : Req) (code bar addr : Nat) : (s.hostErr rq code bar addr).wakeLog = s.wakeLog :=
  (congrArg State.wakeLog (s.hostErr_frame rq code bar addr) :)
@[simp] theorem State.hostErr_siloLog (rq : Req) (code bar addr : Nat) : (s.hostErr rq code bar addr).siloLog = s.siloLog :=
  (congrArg State.siloLog (s.hostErr_frame rq code bar addr) :)
@[simp] theorem State.hostErr_free (rq : Req) (code bar addr : Nat) : (s.hostErr rq code bar addr).free = s.free :=
  (congrArg State.free (s.hostErr_frame rq code bar addr) :)
@[simp] theorem State.hostErr_pending (rq : Req) (code bar addr : Nat) : (s.hostErr rq code bar addr).pending = s.pending :=
  (congrArg State.pending (s.hostErr_frame rq code bar addr) :)
@[simp] theorem State.hostErr_quay (rq : Req) (code bar addr : Nat) (q' : Nat) : (s.hostErr rq code bar addr).quay q' = s.quay q' :=
 (congrArg (fun s => State.quay s q') (s.hostErr_frame rq code bar addr) :)
@[simp] theorem State.hostErr_port (rq : Req) (code bar addr : Nat) (p' : Nat) : (s.hostErr rq code bar addr).port p' = s.port p' :=
 (congrArg (fun s => State.port s p') (s.hostErr_frame rq code bar addr) :)
@[simp] theorem State.hostErr_chan (rq : Req) (code bar addr : Nat) (c' : Nat) : (s.hostErr rq code bar addr).chan c' = s.chan c' :=
 (congrArg (fun s => State.chan s c') (s.hostErr_frame rq code bar addr) :)

@[simp] theorem State.regRsvd_eq (rq : Req) (addr : Nat) : s.regRsvd rq addr = s.hostErr rq 0xC9 0 addr := rfl

/-- An error capture writes no register but HOST_ERR, ERR_ADDR and those of a notification. -/
@[simp] theorem State.hostErr_reg (rq : Req) (code bar addr : Nat) {k : Nat} (hk : errKey k = false) :
    (s.hostErr rq code bar addr).reg k = s.reg k := by
  simp only [errKey, Bool.or_eq_false_iff, beq_eq_false_iff_ne] at hk
  obtain ⟨⟨⟨h4, h8⟩, hc⟩, hn⟩ := hk
  unfold State.hostErr
  dsimp only
  rw [State.note_reg _ (by decide) hn]
  split <;> simp [Ne.symm h4, Ne.symm h8, Ne.symm hc]

/-! ### Logs, faults and power codes -/

@[simp] theorem State.memStatus_eq (b : Nat) : s.memStatus b = (s.orReg (kMem 4) (2 ^ b)).note 163 := rfl

/-- The ECC log, or its loss count (R133). -/
theorem State.eccPush_frame (kind a : Nat) :
    s.eccPush kind a = { s with regs := (s.eccPush kind a).regs, c64 := (s.eccPush kind a).c64, eccLog := (s.eccPush kind a).eccLog, out := (s.eccPush kind a).out } := by
  unfold State.eccPush
  dsimp only
  split
  · rw [State.note_frame, State.trace_frame]
  · apply State.ext <;> first | rfl | simp


/-- A corrected word is counted and logged (R122). -/
theorem State.eccCorrected_frame (a : Nat) :
    s.eccCorrected a = { s with regs := (s.eccCorrected a).regs, c64 := (s.eccCorrected a).c64, eccLog := (s.eccCorrected a).eccLog, out := (s.eccCorrected a).out } := by
  unfold State.eccCorrected; dsimp only; rw [State.eccPush_frame]; apply State.ext <;> rfl


/-- An uncorrectable word is counted and logged (R123). -/
theorem State.eccUncorrectable_frame (kind a : Nat) :
    s.eccUncorrectable kind a = { s with regs := (s.eccUncorrectable kind a).regs, c64 := (s.eccUncorrectable kind a).c64, eccLog := (s.eccUncorrectable kind a).eccLog, out := (s.eccUncorrectable kind a).out } := by
  unfold State.eccUncorrectable; rw [State.eccPush_frame]; apply State.ext <;> rfl


theorem eccMerge_frame (a n : Nat) (l : List (Nat × EccMark)) (s : State) :
    eccMerge a n l s = { s with regs := (eccMerge a n l s).regs, c64 := (eccMerge a n l s).c64,
                                eccLog := (eccMerge a n l s).eccLog, out := (eccMerge a n l s).out } := by
  induction l generalizing s with
  | nil => rfl
  | cons x l ih =>
    obtain ⟨k, m⟩ := x
    simp only [eccMerge]
    split
    · exact ih s
    · cases m with
      | corrected => simp only; rw [ih, State.eccCorrected_frame]
      | uncorrectable => simp only; rw [ih, State.eccUncorrectable_frame]

theorem eccWalk_frame (l : List (Nat × EccMark)) (s : State) :
    (eccWalk l s).1 = { s with regs := (eccWalk l s).1.regs, c64 := (eccWalk l s).1.c64,
                               eccLog := (eccWalk l s).1.eccLog, out := (eccWalk l s).1.out } := by
  induction l generalizing s with
  | nil => rfl
  | cons x l ih =>
    obtain ⟨k, m⟩ := x
    cases m with
    | corrected => simp only [eccWalk]; rw [ih, State.eccCorrected_frame]
    | uncorrectable => simp only [eccWalk]; rw [State.eccUncorrectable_frame]

/-- The codewords of a write (R109). -/
theorem State.eccWrite_frame (a n : Nat) :
    s.eccWrite a n = { s with regs := (s.eccWrite a n).regs, c64 := (s.eccWrite a n).c64, eccLog := (s.eccWrite a n).eccLog, out := (s.eccWrite a n).out, stack := (s.eccWrite a n).stack } := by
  unfold State.eccWrite; dsimp only; rw [eccMerge_frame]; rfl


/-- A write of the stack (R109). -/
theorem State.writeStack_frame (a : Nat) (bs : List Byte) :
    s.writeStack a bs = { s with regs := (s.writeStack a bs).regs, c64 := (s.writeStack a bs).c64, eccLog := (s.writeStack a bs).eccLog, out := (s.writeStack a bs).out, stack := (s.writeStack a bs).stack } := by
  unfold State.writeStack; dsimp only; rw [State.eccWrite_frame]; rfl

@[simp] theorem State.writeStack_latch (a : Nat) (bs : List Byte) : (s.writeStack a bs).latch = s.latch :=
  (congrArg State.latch (s.writeStack_frame a bs) :)
@[simp] theorem State.writeStack_staged (a : Nat) (bs : List Byte) : (s.writeStack a bs).staged = s.staged :=
  (congrArg State.staged (s.writeStack_frame a bs) :)
@[simp] theorem State.writeStack_locked (a : Nat) (bs : List Byte) : (s.writeStack a bs).locked = s.locked :=
  (congrArg State.locked (s.writeStack_frame a bs) :)
@[simp] theorem State.writeStack_quays (a : Nat) (bs : List Byte) : (s.writeStack a bs).quays = s.quays :=
  (congrArg State.quays (s.writeStack_frame a bs) :)
@[simp] theorem State.writeStack_ports (a : Nat) (bs : List Byte) : (s.writeStack a bs).ports = s.ports :=
  (congrArg State.ports (s.writeStack_frame a bs) :)
@[simp] theorem State.writeStack_chans (a : Nat) (bs : List Byte) : (s.writeStack a bs).chans = s.chans :=
  (congrArg State.chans (s.writeStack_frame a bs) :)
@[simp] theorem State.writeStack_time (a : Nat) (bs : List Byte) : (s.writeStack a bs).time = s.time :=
  (congrArg State.time (s.writeStack_frame a bs) :)
@[simp] theorem State.writeStack_tide (a : Nat) (bs : List Byte) : (s.writeStack a bs).tide = s.tide :=
  (congrArg State.tide (s.writeStack_frame a bs) :)
@[simp] theorem State.writeStack_fabric (a : Nat) (bs : List Byte) : (s.writeStack a bs).fabric = s.fabric :=
  (congrArg State.fabric (s.writeStack_frame a bs) :)
@[simp] theorem State.writeStack_serve (a : Nat) (bs : List Byte) : (s.writeStack a bs).serve = s.serve :=
  (congrArg State.serve (s.writeStack_frame a bs) :)
@[simp] theorem State.writeStack_silo (a : Nat) (bs : List Byte) : (s.writeStack a bs).silo = s.silo :=
  (congrArg State.silo (s.writeStack_frame a bs) :)
@[simp] theorem State.writeStack_power (a : Nat) (bs : List Byte) : (s.writeStack a bs).power = s.power :=
  (congrArg State.power (s.writeStack_frame a bs) :)
@[simp] theorem State.writeStack_board (a : Nat) (bs : List Byte) : (s.writeStack a bs).board = s.board :=
  (congrArg State.board (s.writeStack_frame a bs) :)
@[simp] theorem State.writeStack_fuses (a : Nat) (bs : List Byte) : (s.writeStack a bs).fuses = s.fuses :=
  (congrArg State.fuses (s.writeStack_frame a bs) :)
@[simp] theorem State.writeStack_qen (a : Nat) (bs : List Byte) : (s.writeStack a bs).qen = s.qen :=
  (congrArg State.qen (s.writeStack_frame a bs) :)
@[simp] theorem State.writeStack_qspare (a : Nat) (bs : List Byte) : (s.writeStack a bs).qspare = s.qspare :=
  (congrArg State.qspare (s.writeStack_frame a bs) :)
@[simp] theorem State.writeStack_rbad (a : Nat) (bs : List Byte) : (s.writeStack a bs).rbad = s.rbad :=
  (congrArg State.rbad (s.writeStack_frame a bs) :)
@[simp] theorem State.writeStack_pbad (a : Nat) (bs : List Byte) : (s.writeStack a bs).pbad = s.pbad :=
  (congrArg State.pbad (s.writeStack_frame a bs) :)
@[simp] theorem State.writeStack_distValid (a : Nat) (bs : List Byte) : (s.writeStack a bs).distValid = s.distValid :=
  (congrArg State.distValid (s.writeStack_frame a bs) :)
@[simp] theorem State.writeStack_chartBuf (a : Nat) (bs : List Byte) : (s.writeStack a bs).chartBuf = s.chartBuf :=
  (congrArg State.chartBuf (s.writeStack_frame a bs) :)
@[simp] theorem State.writeStack_windows (a : Nat) (bs : List Byte) : (s.writeStack a bs).windows = s.windows :=
  (congrArg State.windows (s.writeStack_frame a bs) :)
@[simp] theorem State.writeStack_extLog (a : Nat) (bs : List Byte) : (s.writeStack a bs).extLog = s.extLog :=
  (congrArg State.extLog (s.writeStack_frame a bs) :)
@[simp] theorem State.writeStack_fabLog (a : Nat) (bs : List Byte) : (s.writeStack a bs).fabLog = s.fabLog :=
  (congrArg State.fabLog (s.writeStack_frame a bs) :)
@[simp] theorem State.writeStack_wakeLog (a : Nat) (bs : List Byte) : (s.writeStack a bs).wakeLog = s.wakeLog :=
  (congrArg State.wakeLog (s.writeStack_frame a bs) :)
@[simp] theorem State.writeStack_siloLog (a : Nat) (bs : List Byte) : (s.writeStack a bs).siloLog = s.siloLog :=
  (congrArg State.siloLog (s.writeStack_frame a bs) :)
@[simp] theorem State.writeStack_free (a : Nat) (bs : List Byte) : (s.writeStack a bs).free = s.free :=
  (congrArg State.free (s.writeStack_frame a bs) :)
@[simp] theorem State.writeStack_pending (a : Nat) (bs : List Byte) : (s.writeStack a bs).pending = s.pending :=
  (congrArg State.pending (s.writeStack_frame a bs) :)
@[simp] theorem State.writeStack_quay (a : Nat) (bs : List Byte) (q' : Nat) : (s.writeStack a bs).quay q' = s.quay q' :=
 (congrArg (fun s => State.quay s q') (s.writeStack_frame a bs) :)
@[simp] theorem State.writeStack_port (a : Nat) (bs : List Byte) (p' : Nat) : (s.writeStack a bs).port p' = s.port p' :=
 (congrArg (fun s => State.port s p') (s.writeStack_frame a bs) :)
@[simp] theorem State.writeStack_chan (a : Nat) (bs : List Byte) (c' : Nat) : (s.writeStack a bs).chan c' = s.chan c' :=
 (congrArg (fun s => State.chan s c') (s.writeStack_frame a bs) :)

/-- Of the stack, a write's codewords change only the marks. -/
theorem State.eccWrite_stack_frame (a n : Nat) : (s.eccWrite a n).stack = { s.stack with ecc := (s.eccWrite a n).stack.ecc } := by
  unfold State.eccWrite; dsimp only; rw [eccMerge_frame]; rfl

/-- A write of the stack stores its bytes and leaves every other byte (R109). -/
theorem State.writeStack_mem (a : Nat) (bs : List Byte) : (s.writeStack a bs).stack.mem = s.stack.mem.write a bs := by
  unfold State.writeStack State.setMem; dsimp only; rw [State.eccWrite_stack_frame]

theorem State.writeStack_logbook (a : Nat) (bs : List Byte) : (s.writeStack a bs).stack.logbook = s.stack.logbook := by
  unfold State.writeStack State.setMem; dsimp only; rw [State.eccWrite_stack_frame]

@[simp] theorem State.zeroStack_eq (a n : Nat) :
    s.zeroStack a n = (s.setMem (s.stack.mem.clear a n)).setEcc (tabClear s.stack.ecc a n) := rfl

@[simp] theorem State.setTag_eq (q sl : Nat) (v : W16) :
    s.setTag q sl v = { s with stack := { s.stack with tags := tabPut s.stack.tags (tagKey q sl) v 0 } } := rfl

/-- A run of the stack becomes indeterminate (R56, R123). -/
theorem State.scrambleStack_frame (a n : Nat) :
    s.scrambleStack a n = { s with stack := (s.scrambleStack a n).stack, free := (s.scrambleStack a n).free } := by
  rfl

@[simp] theorem State.scrambleStack_regs (a n : Nat) : (s.scrambleStack a n).regs = s.regs :=
  (congrArg State.regs (s.scrambleStack_frame a n) :)
@[simp] theorem State.scrambleStack_c64 (a n : Nat) : (s.scrambleStack a n).c64 = s.c64 :=
  (congrArg State.c64 (s.scrambleStack_frame a n) :)
@[simp] theorem State.scrambleStack_latch (a n : Nat) : (s.scrambleStack a n).latch = s.latch :=
  (congrArg State.latch (s.scrambleStack_frame a n) :)
@[simp] theorem State.scrambleStack_staged (a n : Nat) : (s.scrambleStack a n).staged = s.staged :=
  (congrArg State.staged (s.scrambleStack_frame a n) :)
@[simp] theorem State.scrambleStack_locked (a n : Nat) : (s.scrambleStack a n).locked = s.locked :=
  (congrArg State.locked (s.scrambleStack_frame a n) :)
@[simp] theorem State.scrambleStack_quays (a n : Nat) : (s.scrambleStack a n).quays = s.quays :=
  (congrArg State.quays (s.scrambleStack_frame a n) :)
@[simp] theorem State.scrambleStack_ports (a n : Nat) : (s.scrambleStack a n).ports = s.ports :=
  (congrArg State.ports (s.scrambleStack_frame a n) :)
@[simp] theorem State.scrambleStack_chans (a n : Nat) : (s.scrambleStack a n).chans = s.chans :=
  (congrArg State.chans (s.scrambleStack_frame a n) :)
@[simp] theorem State.scrambleStack_time (a n : Nat) : (s.scrambleStack a n).time = s.time :=
  (congrArg State.time (s.scrambleStack_frame a n) :)
@[simp] theorem State.scrambleStack_tide (a n : Nat) : (s.scrambleStack a n).tide = s.tide :=
  (congrArg State.tide (s.scrambleStack_frame a n) :)
@[simp] theorem State.scrambleStack_fabric (a n : Nat) : (s.scrambleStack a n).fabric = s.fabric :=
  (congrArg State.fabric (s.scrambleStack_frame a n) :)
@[simp] theorem State.scrambleStack_serve (a n : Nat) : (s.scrambleStack a n).serve = s.serve :=
  (congrArg State.serve (s.scrambleStack_frame a n) :)
@[simp] theorem State.scrambleStack_silo (a n : Nat) : (s.scrambleStack a n).silo = s.silo :=
  (congrArg State.silo (s.scrambleStack_frame a n) :)
@[simp] theorem State.scrambleStack_power (a n : Nat) : (s.scrambleStack a n).power = s.power :=
  (congrArg State.power (s.scrambleStack_frame a n) :)
@[simp] theorem State.scrambleStack_board (a n : Nat) : (s.scrambleStack a n).board = s.board :=
  (congrArg State.board (s.scrambleStack_frame a n) :)
@[simp] theorem State.scrambleStack_fuses (a n : Nat) : (s.scrambleStack a n).fuses = s.fuses :=
  (congrArg State.fuses (s.scrambleStack_frame a n) :)
@[simp] theorem State.scrambleStack_qen (a n : Nat) : (s.scrambleStack a n).qen = s.qen :=
  (congrArg State.qen (s.scrambleStack_frame a n) :)
@[simp] theorem State.scrambleStack_qspare (a n : Nat) : (s.scrambleStack a n).qspare = s.qspare :=
  (congrArg State.qspare (s.scrambleStack_frame a n) :)
@[simp] theorem State.scrambleStack_rbad (a n : Nat) : (s.scrambleStack a n).rbad = s.rbad :=
  (congrArg State.rbad (s.scrambleStack_frame a n) :)
@[simp] theorem State.scrambleStack_pbad (a n : Nat) : (s.scrambleStack a n).pbad = s.pbad :=
  (congrArg State.pbad (s.scrambleStack_frame a n) :)
@[simp] theorem State.scrambleStack_distValid (a n : Nat) : (s.scrambleStack a n).distValid = s.distValid :=
  (congrArg State.distValid (s.scrambleStack_frame a n) :)
@[simp] theorem State.scrambleStack_chartBuf (a n : Nat) : (s.scrambleStack a n).chartBuf = s.chartBuf :=
  (congrArg State.chartBuf (s.scrambleStack_frame a n) :)
@[simp] theorem State.scrambleStack_windows (a n : Nat) : (s.scrambleStack a n).windows = s.windows :=
  (congrArg State.windows (s.scrambleStack_frame a n) :)
@[simp] theorem State.scrambleStack_eccLog (a n : Nat) : (s.scrambleStack a n).eccLog = s.eccLog :=
  (congrArg State.eccLog (s.scrambleStack_frame a n) :)
@[simp] theorem State.scrambleStack_extLog (a n : Nat) : (s.scrambleStack a n).extLog = s.extLog :=
  (congrArg State.extLog (s.scrambleStack_frame a n) :)
@[simp] theorem State.scrambleStack_fabLog (a n : Nat) : (s.scrambleStack a n).fabLog = s.fabLog :=
  (congrArg State.fabLog (s.scrambleStack_frame a n) :)
@[simp] theorem State.scrambleStack_wakeLog (a n : Nat) : (s.scrambleStack a n).wakeLog = s.wakeLog :=
  (congrArg State.wakeLog (s.scrambleStack_frame a n) :)
@[simp] theorem State.scrambleStack_siloLog (a n : Nat) : (s.scrambleStack a n).siloLog = s.siloLog :=
  (congrArg State.siloLog (s.scrambleStack_frame a n) :)
@[simp] theorem State.scrambleStack_out (a n : Nat) : (s.scrambleStack a n).out = s.out :=
  (congrArg State.out (s.scrambleStack_frame a n) :)
@[simp] theorem State.scrambleStack_pending (a n : Nat) : (s.scrambleStack a n).pending = s.pending :=
  (congrArg State.pending (s.scrambleStack_frame a n) :)
@[simp] theorem State.scrambleStack_reg (a n : Nat) (k' : Nat) : (s.scrambleStack a n).reg k' = s.reg k' :=
 (congrArg (fun s => State.reg s k') (s.scrambleStack_frame a n) :)
@[simp] theorem State.scrambleStack_cnt64 (a n : Nat) (k' : Nat) : (s.scrambleStack a n).cnt64 k' = s.cnt64 k' :=
 (congrArg (fun s => State.cnt64 s k') (s.scrambleStack_frame a n) :)
@[simp] theorem State.scrambleStack_quay (a n : Nat) (q' : Nat) : (s.scrambleStack a n).quay q' = s.quay q' :=
 (congrArg (fun s => State.quay s q') (s.scrambleStack_frame a n) :)
@[simp] theorem State.scrambleStack_port (a n : Nat) (p' : Nat) : (s.scrambleStack a n).port p' = s.port p' :=
 (congrArg (fun s => State.port s p') (s.scrambleStack_frame a n) :)
@[simp] theorem State.scrambleStack_chan (a n : Nat) (c' : Nat) : (s.scrambleStack a n).chan c' = s.chan c' :=
 (congrArg (fun s => State.chan s c') (s.scrambleStack_frame a n) :)

/-- An arrival counts in CNTn (R151). -/
theorem State.arrive_frame (q n : Nat) :
    s.arrive q n = { s with regs := (s.arrive q n).regs } := by
  unfold State.arrive; split <;> rfl

@[simp] theorem State.arrive_c64 (q n : Nat) : (s.arrive q n).c64 = s.c64 :=
  (congrArg State.c64 (s.arrive_frame q n) :)
@[simp] theorem State.arrive_latch (q n : Nat) : (s.arrive q n).latch = s.latch :=
  (congrArg State.latch (s.arrive_frame q n) :)
@[simp] theorem State.arrive_staged (q n : Nat) : (s.arrive q n).staged = s.staged :=
  (congrArg State.staged (s.arrive_frame q n) :)
@[simp] theorem State.arrive_locked (q n : Nat) : (s.arrive q n).locked = s.locked :=
  (congrArg State.locked (s.arrive_frame q n) :)
@[simp] theorem State.arrive_quays (q n : Nat) : (s.arrive q n).quays = s.quays :=
  (congrArg State.quays (s.arrive_frame q n) :)
@[simp] theorem State.arrive_ports (q n : Nat) : (s.arrive q n).ports = s.ports :=
  (congrArg State.ports (s.arrive_frame q n) :)
@[simp] theorem State.arrive_chans (q n : Nat) : (s.arrive q n).chans = s.chans :=
  (congrArg State.chans (s.arrive_frame q n) :)
@[simp] theorem State.arrive_time (q n : Nat) : (s.arrive q n).time = s.time :=
  (congrArg State.time (s.arrive_frame q n) :)
@[simp] theorem State.arrive_tide (q n : Nat) : (s.arrive q n).tide = s.tide :=
  (congrArg State.tide (s.arrive_frame q n) :)
@[simp] theorem State.arrive_stack (q n : Nat) : (s.arrive q n).stack = s.stack :=
  (congrArg State.stack (s.arrive_frame q n) :)
@[simp] theorem State.arrive_fabric (q n : Nat) : (s.arrive q n).fabric = s.fabric :=
  (congrArg State.fabric (s.arrive_frame q n) :)
@[simp] theorem State.arrive_serve (q n : Nat) : (s.arrive q n).serve = s.serve :=
  (congrArg State.serve (s.arrive_frame q n) :)
@[simp] theorem State.arrive_silo (q n : Nat) : (s.arrive q n).silo = s.silo :=
  (congrArg State.silo (s.arrive_frame q n) :)
@[simp] theorem State.arrive_power (q n : Nat) : (s.arrive q n).power = s.power :=
  (congrArg State.power (s.arrive_frame q n) :)
@[simp] theorem State.arrive_board (q n : Nat) : (s.arrive q n).board = s.board :=
  (congrArg State.board (s.arrive_frame q n) :)
@[simp] theorem State.arrive_fuses (q n : Nat) : (s.arrive q n).fuses = s.fuses :=
  (congrArg State.fuses (s.arrive_frame q n) :)
@[simp] theorem State.arrive_qen (q n : Nat) : (s.arrive q n).qen = s.qen :=
  (congrArg State.qen (s.arrive_frame q n) :)
@[simp] theorem State.arrive_qspare (q n : Nat) : (s.arrive q n).qspare = s.qspare :=
  (congrArg State.qspare (s.arrive_frame q n) :)
@[simp] theorem State.arrive_rbad (q n : Nat) : (s.arrive q n).rbad = s.rbad :=
  (congrArg State.rbad (s.arrive_frame q n) :)
@[simp] theorem State.arrive_pbad (q n : Nat) : (s.arrive q n).pbad = s.pbad :=
  (congrArg State.pbad (s.arrive_frame q n) :)
@[simp] theorem State.arrive_distValid (q n : Nat) : (s.arrive q n).distValid = s.distValid :=
  (congrArg State.distValid (s.arrive_frame q n) :)
@[simp] theorem State.arrive_chartBuf (q n : Nat) : (s.arrive q n).chartBuf = s.chartBuf :=
  (congrArg State.chartBuf (s.arrive_frame q n) :)
@[simp] theorem State.arrive_windows (q n : Nat) : (s.arrive q n).windows = s.windows :=
  (congrArg State.windows (s.arrive_frame q n) :)
@[simp] theorem State.arrive_eccLog (q n : Nat) : (s.arrive q n).eccLog = s.eccLog :=
  (congrArg State.eccLog (s.arrive_frame q n) :)
@[simp] theorem State.arrive_extLog (q n : Nat) : (s.arrive q n).extLog = s.extLog :=
  (congrArg State.extLog (s.arrive_frame q n) :)
@[simp] theorem State.arrive_fabLog (q n : Nat) : (s.arrive q n).fabLog = s.fabLog :=
  (congrArg State.fabLog (s.arrive_frame q n) :)
@[simp] theorem State.arrive_wakeLog (q n : Nat) : (s.arrive q n).wakeLog = s.wakeLog :=
  (congrArg State.wakeLog (s.arrive_frame q n) :)
@[simp] theorem State.arrive_siloLog (q n : Nat) : (s.arrive q n).siloLog = s.siloLog :=
  (congrArg State.siloLog (s.arrive_frame q n) :)
@[simp] theorem State.arrive_out (q n : Nat) : (s.arrive q n).out = s.out :=
  (congrArg State.out (s.arrive_frame q n) :)
@[simp] theorem State.arrive_free (q n : Nat) : (s.arrive q n).free = s.free :=
  (congrArg State.free (s.arrive_frame q n) :)
@[simp] theorem State.arrive_pending (q n : Nat) : (s.arrive q n).pending = s.pending :=
  (congrArg State.pending (s.arrive_frame q n) :)
@[simp] theorem State.arrive_cnt64 (q n : Nat) (k' : Nat) : (s.arrive q n).cnt64 k' = s.cnt64 k' :=
 (congrArg (fun s => State.cnt64 s k') (s.arrive_frame q n) :)
@[simp] theorem State.arrive_quay (q n : Nat) (q' : Nat) : (s.arrive q n).quay q' = s.quay q' :=
 (congrArg (fun s => State.quay s q') (s.arrive_frame q n) :)
@[simp] theorem State.arrive_port (q n : Nat) (p' : Nat) : (s.arrive q n).port p' = s.port p' :=
 (congrArg (fun s => State.port s p') (s.arrive_frame q n) :)
@[simp] theorem State.arrive_chan (q n : Nat) (c' : Nat) : (s.arrive q n).chan c' = s.chan c' :=
 (congrArg (fun s => State.chan s c') (s.arrive_frame q n) :)

/-- A lost completion counts in CNTn and FAILn (R149). -/
theorem State.arriveLost_frame (q n : Nat) :
    s.arriveLost q n = { s with regs := (s.arriveLost q n).regs } := by
  unfold State.arriveLost
  split
  · rfl
  · rw [State.arrive_frame]; exact State.setReg_frame ..

@[simp] theorem State.arriveLost_c64 (q n : Nat) : (s.arriveLost q n).c64 = s.c64 :=
  (congrArg State.c64 (s.arriveLost_frame q n) :)
@[simp] theorem State.arriveLost_latch (q n : Nat) : (s.arriveLost q n).latch = s.latch :=
  (congrArg State.latch (s.arriveLost_frame q n) :)
@[simp] theorem State.arriveLost_staged (q n : Nat) : (s.arriveLost q n).staged = s.staged :=
  (congrArg State.staged (s.arriveLost_frame q n) :)
@[simp] theorem State.arriveLost_locked (q n : Nat) : (s.arriveLost q n).locked = s.locked :=
  (congrArg State.locked (s.arriveLost_frame q n) :)
@[simp] theorem State.arriveLost_quays (q n : Nat) : (s.arriveLost q n).quays = s.quays :=
  (congrArg State.quays (s.arriveLost_frame q n) :)
@[simp] theorem State.arriveLost_ports (q n : Nat) : (s.arriveLost q n).ports = s.ports :=
  (congrArg State.ports (s.arriveLost_frame q n) :)
@[simp] theorem State.arriveLost_chans (q n : Nat) : (s.arriveLost q n).chans = s.chans :=
  (congrArg State.chans (s.arriveLost_frame q n) :)
@[simp] theorem State.arriveLost_time (q n : Nat) : (s.arriveLost q n).time = s.time :=
  (congrArg State.time (s.arriveLost_frame q n) :)
@[simp] theorem State.arriveLost_tide (q n : Nat) : (s.arriveLost q n).tide = s.tide :=
  (congrArg State.tide (s.arriveLost_frame q n) :)
@[simp] theorem State.arriveLost_stack (q n : Nat) : (s.arriveLost q n).stack = s.stack :=
  (congrArg State.stack (s.arriveLost_frame q n) :)
@[simp] theorem State.arriveLost_fabric (q n : Nat) : (s.arriveLost q n).fabric = s.fabric :=
  (congrArg State.fabric (s.arriveLost_frame q n) :)
@[simp] theorem State.arriveLost_serve (q n : Nat) : (s.arriveLost q n).serve = s.serve :=
  (congrArg State.serve (s.arriveLost_frame q n) :)
@[simp] theorem State.arriveLost_silo (q n : Nat) : (s.arriveLost q n).silo = s.silo :=
  (congrArg State.silo (s.arriveLost_frame q n) :)
@[simp] theorem State.arriveLost_power (q n : Nat) : (s.arriveLost q n).power = s.power :=
  (congrArg State.power (s.arriveLost_frame q n) :)
@[simp] theorem State.arriveLost_board (q n : Nat) : (s.arriveLost q n).board = s.board :=
  (congrArg State.board (s.arriveLost_frame q n) :)
@[simp] theorem State.arriveLost_fuses (q n : Nat) : (s.arriveLost q n).fuses = s.fuses :=
  (congrArg State.fuses (s.arriveLost_frame q n) :)
@[simp] theorem State.arriveLost_qen (q n : Nat) : (s.arriveLost q n).qen = s.qen :=
  (congrArg State.qen (s.arriveLost_frame q n) :)
@[simp] theorem State.arriveLost_qspare (q n : Nat) : (s.arriveLost q n).qspare = s.qspare :=
  (congrArg State.qspare (s.arriveLost_frame q n) :)
@[simp] theorem State.arriveLost_rbad (q n : Nat) : (s.arriveLost q n).rbad = s.rbad :=
  (congrArg State.rbad (s.arriveLost_frame q n) :)
@[simp] theorem State.arriveLost_pbad (q n : Nat) : (s.arriveLost q n).pbad = s.pbad :=
  (congrArg State.pbad (s.arriveLost_frame q n) :)
@[simp] theorem State.arriveLost_distValid (q n : Nat) : (s.arriveLost q n).distValid = s.distValid :=
  (congrArg State.distValid (s.arriveLost_frame q n) :)
@[simp] theorem State.arriveLost_chartBuf (q n : Nat) : (s.arriveLost q n).chartBuf = s.chartBuf :=
  (congrArg State.chartBuf (s.arriveLost_frame q n) :)
@[simp] theorem State.arriveLost_windows (q n : Nat) : (s.arriveLost q n).windows = s.windows :=
  (congrArg State.windows (s.arriveLost_frame q n) :)
@[simp] theorem State.arriveLost_eccLog (q n : Nat) : (s.arriveLost q n).eccLog = s.eccLog :=
  (congrArg State.eccLog (s.arriveLost_frame q n) :)
@[simp] theorem State.arriveLost_extLog (q n : Nat) : (s.arriveLost q n).extLog = s.extLog :=
  (congrArg State.extLog (s.arriveLost_frame q n) :)
@[simp] theorem State.arriveLost_fabLog (q n : Nat) : (s.arriveLost q n).fabLog = s.fabLog :=
  (congrArg State.fabLog (s.arriveLost_frame q n) :)
@[simp] theorem State.arriveLost_wakeLog (q n : Nat) : (s.arriveLost q n).wakeLog = s.wakeLog :=
  (congrArg State.wakeLog (s.arriveLost_frame q n) :)
@[simp] theorem State.arriveLost_siloLog (q n : Nat) : (s.arriveLost q n).siloLog = s.siloLog :=
  (congrArg State.siloLog (s.arriveLost_frame q n) :)
@[simp] theorem State.arriveLost_out (q n : Nat) : (s.arriveLost q n).out = s.out :=
  (congrArg State.out (s.arriveLost_frame q n) :)
@[simp] theorem State.arriveLost_free (q n : Nat) : (s.arriveLost q n).free = s.free :=
  (congrArg State.free (s.arriveLost_frame q n) :)
@[simp] theorem State.arriveLost_pending (q n : Nat) : (s.arriveLost q n).pending = s.pending :=
  (congrArg State.pending (s.arriveLost_frame q n) :)
@[simp] theorem State.arriveLost_cnt64 (q n : Nat) (k' : Nat) : (s.arriveLost q n).cnt64 k' = s.cnt64 k' :=
 (congrArg (fun s => State.cnt64 s k') (s.arriveLost_frame q n) :)
@[simp] theorem State.arriveLost_quay (q n : Nat) (q' : Nat) : (s.arriveLost q n).quay q' = s.quay q' :=
 (congrArg (fun s => State.quay s q') (s.arriveLost_frame q n) :)
@[simp] theorem State.arriveLost_port (q n : Nat) (p' : Nat) : (s.arriveLost q n).port p' = s.port p' :=
 (congrArg (fun s => State.port s p') (s.arriveLost_frame q n) :)
@[simp] theorem State.arriveLost_chan (q n : Nat) (c' : Nat) : (s.arriveLost q n).chan c' = s.chan c' :=
 (congrArg (fun s => State.chan s c') (s.arriveLost_frame q n) :)

theorem State.set3_frame (k k' k'' : Nat) (v v' : W32) (v'' : W64) :
    ((s.setReg k v).setReg k' v').setCnt64 k'' v'' =
      { s with regs := (((s.setReg k v).setReg k' v').setCnt64 k'' v'').regs,
               c64 := (((s.setReg k v).setReg k' v').setCnt64 k'' v'').c64 } := rfl

/-- The fault record (R180). -/
theorem State.recordFault_frame (q code pc info : Nat) (pr : Bool) :
    s.recordFault q code pc info pr = { s with regs := (s.recordFault q code pc info pr).regs, c64 := (s.recordFault q code pc info pr).c64 } := by
  exact State.set3_frame ..


/-- A fault of a quay (R179, R180). -/
theorem State.quayFault_frame (q code pc info : Nat) (pr : Bool) :
    s.quayFault q code pc info pr = { s with regs := (s.quayFault q code pc info pr).regs, c64 := (s.quayFault q code pc info pr).c64, quays := (s.quayFault q code pc info pr).quays } := by
  unfold State.quayFault
  dsimp only
  split
  · rw [State.recordFault_frame]; exact State.setQuay_frame ..
  · split
    · exact State.setReg_frame ..
    · rfl

@[simp] theorem State.quayFault_latch (q code pc info : Nat) (pr : Bool) : (s.quayFault q code pc info pr).latch = s.latch :=
  (congrArg State.latch (s.quayFault_frame q code pc info pr) :)
@[simp] theorem State.quayFault_staged (q code pc info : Nat) (pr : Bool) : (s.quayFault q code pc info pr).staged = s.staged :=
  (congrArg State.staged (s.quayFault_frame q code pc info pr) :)
@[simp] theorem State.quayFault_locked (q code pc info : Nat) (pr : Bool) : (s.quayFault q code pc info pr).locked = s.locked :=
  (congrArg State.locked (s.quayFault_frame q code pc info pr) :)
@[simp] theorem State.quayFault_ports (q code pc info : Nat) (pr : Bool) : (s.quayFault q code pc info pr).ports = s.ports :=
  (congrArg State.ports (s.quayFault_frame q code pc info pr) :)
@[simp] theorem State.quayFault_chans (q code pc info : Nat) (pr : Bool) : (s.quayFault q code pc info pr).chans = s.chans :=
  (congrArg State.chans (s.quayFault_frame q code pc info pr) :)
@[simp] theorem State.quayFault_time (q code pc info : Nat) (pr : Bool) : (s.quayFault q code pc info pr).time = s.time :=
  (congrArg State.time (s.quayFault_frame q code pc info pr) :)
@[simp] theorem State.quayFault_tide (q code pc info : Nat) (pr : Bool) : (s.quayFault q code pc info pr).tide = s.tide :=
  (congrArg State.tide (s.quayFault_frame q code pc info pr) :)
@[simp] theorem State.quayFault_stack (q code pc info : Nat) (pr : Bool) : (s.quayFault q code pc info pr).stack = s.stack :=
  (congrArg State.stack (s.quayFault_frame q code pc info pr) :)
@[simp] theorem State.quayFault_fabric (q code pc info : Nat) (pr : Bool) : (s.quayFault q code pc info pr).fabric = s.fabric :=
  (congrArg State.fabric (s.quayFault_frame q code pc info pr) :)
@[simp] theorem State.quayFault_serve (q code pc info : Nat) (pr : Bool) : (s.quayFault q code pc info pr).serve = s.serve :=
  (congrArg State.serve (s.quayFault_frame q code pc info pr) :)
@[simp] theorem State.quayFault_silo (q code pc info : Nat) (pr : Bool) : (s.quayFault q code pc info pr).silo = s.silo :=
  (congrArg State.silo (s.quayFault_frame q code pc info pr) :)
@[simp] theorem State.quayFault_power (q code pc info : Nat) (pr : Bool) : (s.quayFault q code pc info pr).power = s.power :=
  (congrArg State.power (s.quayFault_frame q code pc info pr) :)
@[simp] theorem State.quayFault_board (q code pc info : Nat) (pr : Bool) : (s.quayFault q code pc info pr).board = s.board :=
  (congrArg State.board (s.quayFault_frame q code pc info pr) :)
@[simp] theorem State.quayFault_fuses (q code pc info : Nat) (pr : Bool) : (s.quayFault q code pc info pr).fuses = s.fuses :=
  (congrArg State.fuses (s.quayFault_frame q code pc info pr) :)
@[simp] theorem State.quayFault_qen (q code pc info : Nat) (pr : Bool) : (s.quayFault q code pc info pr).qen = s.qen :=
  (congrArg State.qen (s.quayFault_frame q code pc info pr) :)
@[simp] theorem State.quayFault_qspare (q code pc info : Nat) (pr : Bool) : (s.quayFault q code pc info pr).qspare = s.qspare :=
  (congrArg State.qspare (s.quayFault_frame q code pc info pr) :)
@[simp] theorem State.quayFault_rbad (q code pc info : Nat) (pr : Bool) : (s.quayFault q code pc info pr).rbad = s.rbad :=
  (congrArg State.rbad (s.quayFault_frame q code pc info pr) :)
@[simp] theorem State.quayFault_pbad (q code pc info : Nat) (pr : Bool) : (s.quayFault q code pc info pr).pbad = s.pbad :=
  (congrArg State.pbad (s.quayFault_frame q code pc info pr) :)
@[simp] theorem State.quayFault_distValid (q code pc info : Nat) (pr : Bool) : (s.quayFault q code pc info pr).distValid = s.distValid :=
  (congrArg State.distValid (s.quayFault_frame q code pc info pr) :)
@[simp] theorem State.quayFault_chartBuf (q code pc info : Nat) (pr : Bool) : (s.quayFault q code pc info pr).chartBuf = s.chartBuf :=
  (congrArg State.chartBuf (s.quayFault_frame q code pc info pr) :)
@[simp] theorem State.quayFault_windows (q code pc info : Nat) (pr : Bool) : (s.quayFault q code pc info pr).windows = s.windows :=
  (congrArg State.windows (s.quayFault_frame q code pc info pr) :)
@[simp] theorem State.quayFault_eccLog (q code pc info : Nat) (pr : Bool) : (s.quayFault q code pc info pr).eccLog = s.eccLog :=
  (congrArg State.eccLog (s.quayFault_frame q code pc info pr) :)
@[simp] theorem State.quayFault_extLog (q code pc info : Nat) (pr : Bool) : (s.quayFault q code pc info pr).extLog = s.extLog :=
  (congrArg State.extLog (s.quayFault_frame q code pc info pr) :)
@[simp] theorem State.quayFault_fabLog (q code pc info : Nat) (pr : Bool) : (s.quayFault q code pc info pr).fabLog = s.fabLog :=
  (congrArg State.fabLog (s.quayFault_frame q code pc info pr) :)
@[simp] theorem State.quayFault_wakeLog (q code pc info : Nat) (pr : Bool) : (s.quayFault q code pc info pr).wakeLog = s.wakeLog :=
  (congrArg State.wakeLog (s.quayFault_frame q code pc info pr) :)
@[simp] theorem State.quayFault_siloLog (q code pc info : Nat) (pr : Bool) : (s.quayFault q code pc info pr).siloLog = s.siloLog :=
  (congrArg State.siloLog (s.quayFault_frame q code pc info pr) :)
@[simp] theorem State.quayFault_out (q code pc info : Nat) (pr : Bool) : (s.quayFault q code pc info pr).out = s.out :=
  (congrArg State.out (s.quayFault_frame q code pc info pr) :)
@[simp] theorem State.quayFault_free (q code pc info : Nat) (pr : Bool) : (s.quayFault q code pc info pr).free = s.free :=
  (congrArg State.free (s.quayFault_frame q code pc info pr) :)
@[simp] theorem State.quayFault_pending (q code pc info : Nat) (pr : Bool) : (s.quayFault q code pc info pr).pending = s.pending :=
  (congrArg State.pending (s.quayFault_frame q code pc info pr) :)
@[simp] theorem State.quayFault_port (q code pc info : Nat) (pr : Bool) (p' : Nat) : (s.quayFault q code pc info pr).port p' = s.port p' :=
 (congrArg (fun s => State.port s p') (s.quayFault_frame q code pc info pr) :)
@[simp] theorem State.quayFault_chan (q code pc info : Nat) (pr : Bool) (c' : Nat) : (s.quayFault q code pc info pr).chan c' = s.chan c' :=
 (congrArg (fun s => State.chan s c') (s.quayFault_frame q code pc info pr) :)

/-- A fault leaves every other quay, and every register but its own quay's record. -/
@[simp] theorem State.quayFault_quay_ne {q q' : Nat} (h : q' ≠ q) (code pc info : Nat) (pr : Bool) :
    (s.quayFault q code pc info pr).quay q' = s.quay q' := by
  unfold State.quayFault
  dsimp only
  split
  · simp [h, State.recordFault]
  · split <;> simp

@[simp] theorem State.issueFault_eq (q code info : Nat) :
    s.issueFault q code info = s.quayFault q code (s.quay q).pc.toNat info true := rfl

@[simp] theorem State.dataFault_eq (q id index code info : Nat) :
    s.dataFault q id index code info = s.quayFault q code index info (decide ((s.quay q).nextId = id + 1)) := rfl

@[simp] theorem State.ueFault_eq (q id index bad : Nat) :
    s.ueFault q id index bad = s.dataFault q id index (ueCode bad) (memInfo bad) := rfl

/-- A Stillwater breach (R312). -/
theorem State.breach_frame (b : Nat) :
    s.breach b = { s with regs := (s.breach b).regs, out := (s.breach b).out } := by
  unfold State.breach
  split
  · apply State.ext <;> first | rfl | simp
  · rfl

@[simp] theorem State.breach_c64 (b : Nat) : (s.breach b).c64 = s.c64 :=
  (congrArg State.c64 (s.breach_frame b) :)
@[simp] theorem State.breach_latch (b : Nat) : (s.breach b).latch = s.latch :=
  (congrArg State.latch (s.breach_frame b) :)
@[simp] theorem State.breach_staged (b : Nat) : (s.breach b).staged = s.staged :=
  (congrArg State.staged (s.breach_frame b) :)
@[simp] theorem State.breach_locked (b : Nat) : (s.breach b).locked = s.locked :=
  (congrArg State.locked (s.breach_frame b) :)
@[simp] theorem State.breach_quays (b : Nat) : (s.breach b).quays = s.quays :=
  (congrArg State.quays (s.breach_frame b) :)
@[simp] theorem State.breach_ports (b : Nat) : (s.breach b).ports = s.ports :=
  (congrArg State.ports (s.breach_frame b) :)
@[simp] theorem State.breach_chans (b : Nat) : (s.breach b).chans = s.chans :=
  (congrArg State.chans (s.breach_frame b) :)
@[simp] theorem State.breach_time (b : Nat) : (s.breach b).time = s.time :=
  (congrArg State.time (s.breach_frame b) :)
@[simp] theorem State.breach_tide (b : Nat) : (s.breach b).tide = s.tide :=
  (congrArg State.tide (s.breach_frame b) :)
@[simp] theorem State.breach_stack (b : Nat) : (s.breach b).stack = s.stack :=
  (congrArg State.stack (s.breach_frame b) :)
@[simp] theorem State.breach_fabric (b : Nat) : (s.breach b).fabric = s.fabric :=
  (congrArg State.fabric (s.breach_frame b) :)
@[simp] theorem State.breach_serve (b : Nat) : (s.breach b).serve = s.serve :=
  (congrArg State.serve (s.breach_frame b) :)
@[simp] theorem State.breach_silo (b : Nat) : (s.breach b).silo = s.silo :=
  (congrArg State.silo (s.breach_frame b) :)
@[simp] theorem State.breach_power (b : Nat) : (s.breach b).power = s.power :=
  (congrArg State.power (s.breach_frame b) :)
@[simp] theorem State.breach_board (b : Nat) : (s.breach b).board = s.board :=
  (congrArg State.board (s.breach_frame b) :)
@[simp] theorem State.breach_fuses (b : Nat) : (s.breach b).fuses = s.fuses :=
  (congrArg State.fuses (s.breach_frame b) :)
@[simp] theorem State.breach_qen (b : Nat) : (s.breach b).qen = s.qen :=
  (congrArg State.qen (s.breach_frame b) :)
@[simp] theorem State.breach_qspare (b : Nat) : (s.breach b).qspare = s.qspare :=
  (congrArg State.qspare (s.breach_frame b) :)
@[simp] theorem State.breach_rbad (b : Nat) : (s.breach b).rbad = s.rbad :=
  (congrArg State.rbad (s.breach_frame b) :)
@[simp] theorem State.breach_pbad (b : Nat) : (s.breach b).pbad = s.pbad :=
  (congrArg State.pbad (s.breach_frame b) :)
@[simp] theorem State.breach_distValid (b : Nat) : (s.breach b).distValid = s.distValid :=
  (congrArg State.distValid (s.breach_frame b) :)
@[simp] theorem State.breach_chartBuf (b : Nat) : (s.breach b).chartBuf = s.chartBuf :=
  (congrArg State.chartBuf (s.breach_frame b) :)
@[simp] theorem State.breach_windows (b : Nat) : (s.breach b).windows = s.windows :=
  (congrArg State.windows (s.breach_frame b) :)
@[simp] theorem State.breach_eccLog (b : Nat) : (s.breach b).eccLog = s.eccLog :=
  (congrArg State.eccLog (s.breach_frame b) :)
@[simp] theorem State.breach_extLog (b : Nat) : (s.breach b).extLog = s.extLog :=
  (congrArg State.extLog (s.breach_frame b) :)
@[simp] theorem State.breach_fabLog (b : Nat) : (s.breach b).fabLog = s.fabLog :=
  (congrArg State.fabLog (s.breach_frame b) :)
@[simp] theorem State.breach_wakeLog (b : Nat) : (s.breach b).wakeLog = s.wakeLog :=
  (congrArg State.wakeLog (s.breach_frame b) :)
@[simp] theorem State.breach_siloLog (b : Nat) : (s.breach b).siloLog = s.siloLog :=
  (congrArg State.siloLog (s.breach_frame b) :)
@[simp] theorem State.breach_free (b : Nat) : (s.breach b).free = s.free :=
  (congrArg State.free (s.breach_frame b) :)
@[simp] theorem State.breach_pending (b : Nat) : (s.breach b).pending = s.pending :=
  (congrArg State.pending (s.breach_frame b) :)
@[simp] theorem State.breach_cnt64 (b : Nat) (k' : Nat) : (s.breach b).cnt64 k' = s.cnt64 k' :=
 (congrArg (fun s => State.cnt64 s k') (s.breach_frame b) :)
@[simp] theorem State.breach_quay (b : Nat) (q' : Nat) : (s.breach b).quay q' = s.quay q' :=
 (congrArg (fun s => State.quay s q') (s.breach_frame b) :)
@[simp] theorem State.breach_port (b : Nat) (p' : Nat) : (s.breach b).port p' = s.port p' :=
 (congrArg (fun s => State.port s p') (s.breach_frame b) :)
@[simp] theorem State.breach_chan (b : Nat) (c' : Nat) : (s.breach b).chan c' = s.chan c' :=
 (congrArg (fun s => State.chan s c') (s.breach_frame b) :)

@[simp] theorem State.endAlign_eq : s.endAlign = s.setField 0x1C00044 0 1 0 := rfl

@[simp] theorem State.powerCode_eq (code : Nat) : s.powerCode code = (s.setField 0x200004 16 8 code).note 164 := rfl

end Sys2Proof.Machine
end

