-- ==== Sys2Proof/Laws/Issue.lean ====
section
/-! SUPPORT. What fetch, issue, a hold and a fault of a quay do, said once. -/

namespace Sys2Proof.Machine

variable (s : State)

theorem State.issueCount_frame (q i n : Nat) :
    s.issueCount q i n = { s with c64 := (s.issueCount q i n).c64 } := by
  unfold State.issueCount State.count; split <;> rfl

@[simp] theorem State.issueCount_reg (q i n k' : Nat) : (s.issueCount q i n).reg k' = s.reg k' :=
  (congrArg (fun s => State.reg s k') (s.issueCount_frame q i n) :)
@[simp] theorem State.issueCount_quay (q i n q' : Nat) : (s.issueCount q i n).quay q' = s.quay q' :=
  (congrArg (fun s => State.quay s q') (s.issueCount_frame q i n) :)

theorem State.issueCount_cnt64 (q i n k : Nat) :
    (s.issueCount q i n).cnt64 k = if k = qkey q (0x100 + 8 * i) then s.issueCountAfter q i n else s.cnt64 k := by
  unfold State.issueCount State.count State.issueCountAfter
  simp only [State.fieldAt_eq]
  by_cases hc : getBits (s.reg (qkey q 0x130)) 1 1 = 1
  · simp only [hc, if_true]
    split
    · subst_vars; rfl
    · rfl
  · simp only [hc, if_false]
    by_cases hk : k = qkey q (0x100 + 8 * i)
    · subst hk; simp
    · simp [hk]

/-- A clean fetch whose word passes the checks of R138 answers the operation and the adjusted word, and changes nothing. -/
theorem State.fetch_ready {q : Nat} {op : Op} {w : W128} {row : Op → W128 → Bool} (h : s.readyAt q op w)
    (hrow : row op (s.wordAt q) = true) : s.fetch q row = (s, some (op, w)) := by
  obtain ⟨he, hr, hh, hp, hl, hm, ho, h2, ha, h4⟩ := h
  unfold State.wordAt at *
  unfold State.fetch
  have e1 : ¬ (4096 ≤ (s.quay q).pc.toNat ∨ s.logLen q ≤ (s.quay q).pc.toNat) := by omega
  simp [he, hr, hh, hm, ho, hrow, h2, ha, h4, e1]

/-- Issue as one fact, over whatever registers the instruction has written before it. -/
theorem State.issued_issuesTo {s s' : State} {q : Nat} {keys : List Nat} (h : s' = { s with regs := s'.regs })
    (hk : ∀ k, k ∉ keys → s'.reg k = s.reg k) (hc : qkey q 0x130 ∉ keys) : s.issuesTo (s'.issued q) q keys := by
  have hq : ∀ q', s'.quay q' = s.quay q' := fun q' => (congrArg (fun s => State.quay s q') h :)
  have h64 : ∀ k, s'.cnt64 k = s.cnt64 k := fun k => (congrArg (fun s => State.cnt64 s k) h :)
  have e : s'.issued q = (s'.issueCount q 0 1).setQuay q ((s.quay q).afterIssue ((s.quay q).pc + 1)) := by
    unfold State.issued Quay.afterIssue; simp only [State.issueCount_quay, hq]
  rw [e]
  refine ⟨?_, ?_, ?_, ?_, ?_, ?_⟩
  · rw [State.issueCount_frame, h]; rfl
  · intro k hk'; simp [hk k hk']
  · rw [State.setQuay_cnt64, State.issueCount_cnt64, if_pos rfl]
    unfold State.issueCountAfter; rw [hk _ hc, h64]
  · intro k hk'; rw [State.setQuay_cnt64, State.issueCount_cnt64, if_neg hk', h64]
  · simp
  · intro q' hq'; simp [hq', hq]

/-- An issue that writes no register before it. -/
theorem State.issued_plain (q : Nat) : s.issuesTo (s.issued q) q [] :=
  State.issued_issuesTo rfl (fun _ _ => rfl) (by simp)

@[simp] theorem State.issued_reg (q k : Nat) : (s.issued q).reg k = s.reg k := by
  unfold State.issued; simp

@[simp] theorem State.issued_quay_same (q : Nat) :
    (s.issued q).quay q = (s.quay q).afterIssue ((s.quay q).pc + 1) := by
  unfold State.issued Quay.afterIssue; simp

/-- A hold as one fact. -/
theorem State.holdAt_holdsTo (q : Nat) (h : Hold) : s.holdsTo (s.holdAt q h) q h := by
  refine ⟨rfl, ?_, ?_⟩ <;> simp +contextual [State.holdAt]

/-- The first fault of a quay in RUN as one fact. -/
theorem State.quayFault_faultsTo {q : Nat} (hr : (s.quay q).st = .run) (code pc info : Nat) (pr : Bool) :
    s.faultsTo (s.quayFault q code pc info pr) q code pc info pr := by
  have e : s.quayFault q code pc info pr = (s.recordFault q code pc info pr).setQuay q
      { s.quay q with st := .draining, drainTo := .faulted, pc := BitVec.ofNat 13 (pc % 4096), hold := .none,
                      stall := .none, confHeld := 0 } := by
    unfold State.quayFault; simp [hr]
  rw [e]
  refine ⟨?_, ?_, ?_, ?_, ?_, ?_, ?_, ?_⟩
  · rw [State.recordFault_frame]; rfl
  · simp [State.recordFault]
  · simp [State.recordFault]
  · intro k h1 h2; simp [State.recordFault, h1, h2]
  · simp [State.recordFault]
  · intro k h1; simp [State.recordFault, h1]
  · simp
  · intro q' hq'; simp [hq', State.recordFault]

end Sys2Proof.Machine
end

