-- ==== Sys2Proof/WellFormed.lean ====
section
/-! DEFINITION. Well-formed commands: every unit number names a unit of the module (R11, R15, R16, R50, R237, R438) and
every operand fits its field. The meanings are total, and a command that names no unit changes nothing but what its rule
says of a unit that is absent; these are the bounds the rows' rules state. -/

namespace Sys2Proof

/-- Quays are 0 to 143 (R11). -/
def quayOk (q : Nat) : Bool := decide (q < 144)
/-- Gantries of a quay are 0 and 1 (R146). -/
def gantryOk (g : Nat) : Bool := decide (g < 2)
/-- Cranes of a quay are 0 to 3 (R50). -/
def craneOk (c : Nat) : Bool := decide (c < 4)
/-- Fider ports are 0 to 15 (R217). -/
def portOk (p : Nat) : Bool := decide (p < 16)
/-- Submission queues are 0 and 1 (R278). -/
def ringOk (r : Nat) : Bool := decide (r < 2)
/-- Berths are 0 to 4,095 (R266). -/
def berthOk (b : Nat) : Bool := decide (b < 4096)
/-- DMA channels are 0 to 15 (R428). -/
def chanOk (c : Nat) : Bool := decide (c < 16)
/-- AVSBus rails 0 to 2 (R329). -/
def railOk (r : Nat) : Bool := decide (r < 3)
/-- Bollard pins (R458). -/
def pinOk (p : Nat) : Bool := decide (p < 8)
/-- A BAR0 write carries 1 to 512 bytes, with their enables, inside the 64 MiB (R408, R414). -/
def writeOk (addr : Nat) (bytes : List (Option Byte)) : Bool :=
  decide (addr < 2 ^ 26) && decide (1 ≤ bytes.length) && decide (bytes.length ≤ 512)
/-- A BAR0 read asks for 1 to 4,096 bytes (R408). -/
def readOk (addr len : Nat) : Bool := decide (addr < 2 ^ 26) && decide (1 ≤ len) && decide (len ≤ 4096)
/-- A flit is 256 bytes (R240). -/
def flitOk (f : List Byte) : Bool := decide (f.length = 256)
/-- A record of n bytes, where its read succeeded (R282, R429). -/
def recordOk (n : Nat) (r : HostRead) : Bool := match r with
  | some bs => decide (bs.length = n)
  | none => true
/-- An ingress port exists. -/
def ingressOk (i : Ingress) : Bool := match i with
  | .port p => portOk p
  | .mesh => true

/-- The command names units that exist, with operands in range. -/
def Instr.wf : Instr → Bool
  | .nop q | .nopHoldEnd q | .halt q | .wtide q | .wtideOffsetReached q | .waitc q | .waitcRelease q | .waitTmo q
  | .fence q | .fenceRelease q | .pset q | .padd q | .cntSet q | .cntAdd q | .cntClr q | .cntGetc q | .cntGetf q
  | .cmpb q | .mov q | .sendWrite q | .sendRead q | .mmaOw q | .mmaAc q | .mmaLdo q | .mmaLda q | .mmaDr q | .vch q
  | .vcmp q | .vexp q | .veStart q | .veDone q | .sbOvf q | .qcmdStop q | .qcmdResume q _ | .qcmdRestart q _
  | .qcmdReset q | .quayResetDone q | .quayDrainDone q | .logLenWrite _ q _ | .logStartWrite _ q _ | .sendRecDrop0 q
  | .sendRecDrop1 q | .craneCntClr q | .veCntClr q | .issCntClr q | .scrubLine q | .refreshSlot q | .refreshForced q
  | .scrubDone q | .retireQuay q => quayOk q
  | .gantryStart q g | .movDone q g => quayOk q && gantryOk g
  | .streamBehindTileLoad q c | .mmaDone q c => quayOk q && craneOk c
  | .paramWrite _ q i _ _ => quayOk q && decide (i < 64)
  | .eccWriteback _ q _ => quayOk q
  | .refLate q slot => quayOk q && decide (slot < 1536)
  | .zeroContainerDone q slot => quayOk q && decide (slot < 65536)
  | .refreshWindow w => decide (w < 4)
  | .portCntClr p | .portEnWrite p _ | .reseed p | .retrain p | .lashWrite p _ | .partnerDetect p _ | .seedDone p
  | .eqConverged p _ | .alignDone p _ | .trainStateTimeout p | .detectRetry p | .recoveryAttemptFail p
  | .recoveryDone p _ | .linkDrop p _ | .syncReqRx p | .syncRspRx p _ _ _ _ | .extensionNoticeRx p _ _ _ _
  | .lpiBurst p | .lpiBeaconRx p _ | .wakeFrameRx p | .stranded p _ | .portRealign p | .retirePort p => portOk p
  | .flitRx p f _ _ => portOk p && flitOk f
  | .writeRx i _ | .readReqRx i _ | .readRspRx i _ | .ackRx i _ | .nackRx i _ | .quenchRx i _ | .unquenchRx i _
  | .ctrlWakeRx i _ | .yewericMessageRx i _ | .packetForward i _ => ingressOk i
  | .completionTimeout u _ | .e2eResend u _ => decide (u < 512)
  | .quenchRegWrite k _ => decide (k < 4)
  | .sqTailWrite r _ | .cancel r _ | .park r | .unpark r | .query r _ | .setPrio r | .mbQuench r | .mbUnquench r
  | .serveConfig r _ | .mbNop r | .mbWake r | .submit r _ _ => ringOk r
  | .parkVerified d | .unparkLoaded d => berthOk d.berth
  | .mirrorCopy b _ _ _ | .adoptFetchDone b _ | .unparkReadFail b => berthOk b
  | .pinWake p | .pinParkEnd p | .strobeInEdge p => pinOk p
  | .quayGroupPowerGood g => decide (g < 8)
  | .avsStep r _ | .avsVdone r | .avsTmo r => railOk r
  | .retireRouter r => decide (r < 144)
  | .regWrite _ a bs => writeOk a bs
  | .loRead _ a n => readOk a n
  | .bar2Read a n => decide (a < 2 ^ 36) && decide (1 ≤ n) && decide (n ≤ 4096)
  | .bar2Write a bs => decide (a < 2 ^ 36) && decide (1 ≤ bs.length) && decide (bs.length ≤ 512)
  | .twoDwRead _ a | .aliasSet _ a _ | .aliasClear _ a _ | .aliasToggle _ a _ => decide (a < 2 ^ 26)
  | .noteMaskWrite w _ => decide (w < 16)
  | .dmaEnWrite c _ | .dmaAbort c | .dmaSkip c | .dmaRestart c | .dmaTailWrite c _ | .xferComplete c => chanOk c
  | .descXfer c d _ | .descCall c d | .descJump c d | .descEnd c d => chanOk c && recordOk 64 d
  | .armingPoint | .fabCntClr | .thermSample .. | .repairCmdGo .. | .eccLogPop | .chartEn .. | .switch ..
  | .chartStop | .chartCheckDone | .checkTmo | .chartLoadDone .. | .chartStart | .switchDrainDone | .chartStopDone
  | .tideBoundary | .phaseStart .. | .elasticHold | .decisionPoint | .applyPoint | .extLogPop | .tbLoad
  | .tbRoleWrite .. | .syncInEdge | .syncOutPulse | .syncExchange .. | .holdoverTimeout | .ackGatherEnd .. | .flogPop
  | .cqHeadWrite .. | .mbReset | .mbEnWrite .. | .cqHostWrite .. | .prepWindow .. | .mirPartnerWrite .. | .mirDrop ..
  | .lbArm | .lbDisarm | .swWrite .. | .swChangeDone | .swsArm | .swsDisarm | .swsClose | .swsQuietCheck
  | .swsDividerRestart | .swsFifoReset | .swsMarkerSend | .swsLatencyFix | .swsReopen | .pwrCmdA0 | .pwrCmdA1
  | .pwrCmdS1 | .pwrCmdS2 | .pwrCmdS3 | .sleepEntryDone | .wakeTimer | .wakeSlotEnd | .sleepExitDone | .pmbusPoll ..
  | .estimateWindow .. | .capWrite .. | .learnReset | .droop .. | .droopEnd | .thermTrip | .a1GateOffset | .ageReplan
  | .replanDone .. | .calLoad | .calCaptureEq | .calCommit | .calKeyWrite .. | .calCmdDone | .duPersistDone ..
  | .portDistRecomputeDone | .siloCreate | .siloSeal | .siloErase | .siloSaveRepair | .siloCmdDone | .siloScrubPass
  | .siloProgFail .. | .slogPop | .installFw .. | .installKey .. | .revokeKey .. | .raiseSvn | .trustArmWrite ..
  | .debugLockWrite .. | .blockModeWrite .. | .flr | .traceEnWrite .. | .powerOn
  | .pwrEnRise | .pwrEnFall | .powerLoss | .perst | .readReg .. | .writeReg .. | .smbusWake | .smbusReset ..
  | .pinCfg .. | .pinGet | .gpioSet .. | .strobeTs | .wlogPop | .repairDone | .trustCmdDone | .perstDeassert
  | .pcieLinkTrained .. | .bootRestoreDone | .refclkLoss | .siloScrubPassEnd | .ageMargin .. | .tapActivity => true

end Sys2Proof
end

