-- ==== Sys2Proof/Tests/Slice0.lean ====
section
/-! SUPPORT. Tests: ill-formed commands are refused, small checks of one step against values of the spec, and for each
statement states that meet its hypotheses. -/

namespace Sys2Proof.Tests

open Sys2Proof Sys2Proof.Machine

set_option Elab.async false

/-! ### States for the tests -/

/-- A word with the given fields: lowest bit and value. -/
def wd (fs : List (Nat × Nat)) : W128 := BitVec.ofNat 128 (fs.foldl (fun n f => n + f.2 * 2 ^ f.1) 0)

/-- The state a command leaves. -/
def out' (r : Host.Outcome State Fault Refusal) : State :=
  match r with
  | .next t => t
  | _ => State.reset

/-- Registers set in a state. -/
def withRegs (s : State) (rs : List (Nat × Nat)) : State := rs.foldl (fun s r => s.setReg r.1 (w32 r.2)) s

/-- Quay q of a state replaced. -/
def withQuay (s : State) (q : Nat) (x : Quay) : State := s.setQuay q x

/-- A quay in RUN. -/
def runner : Quay := { Quay.init with st := .run }

/-- Quay 0 is in RUN on a program of one word. -/
def prog (w : W128) : State :=
  withQuay (withRegs { State.reset with
    stack := { Stack.init with logbook := Mem.write [] (logAddr 0 0) (leBytes 16 w.toNat) } } [(qkey 0 8, 1)]) 0 runner

/-- The same with a quay in another state. -/
def progOn (x : Quay) (w : W128) : State := withQuay (prog w) 0 { x with st := .run }

/-- A crane job on crane 0. -/
def job1 : CraneJob :=
  { id := 9, index := 0, word := 0, form := .ow, cranes := [0], m0 := 0, rows := 1, waiting := [], half := 0, wfmt := 0,
    afmt := 0, abytes := [], ascales := [], anchor := 0, fault := none, shared := false }

def wPset : W128 := wd [(0, 8), (24, 5), (32, 77)]
def wPadd : W128 := wd [(0, 9), (24, 5), (30, 6), (64, 0xFFFFFFFF)]
def wCnt (fn imm : Nat) : W128 := wd [(0, 10), (24, 15), (28, fn), (64, imm)]
def wCmpb (pred br target imm : Nat) : W128 := wd [(0, 11), (24, 7), (27, pred), (46, br), (48, target), (64, imm)]
def wNop (n : Nat) : W128 := wd [(0, 1), (24, n)]
def wTide (mode phase ofs : Nat) : W128 := wd [(0, 3), (24, mode), (26, phase), (32, ofs)]
def wWait (target tmo : Nat) : W128 := wd [(0, 4), (24, 3), (32, target), (64, tmo)]
def wFence (m : Nat) : W128 := wd [(0, 5), (24, m)]
def wHalt : W128 := wd [(0, 2), (24, 0xBEEF)]

/-! ### Witnesses: the hypotheses of each statement are met -/

theorem witness_ParamAndCounterInstructions :
    (prog wPset).readyAt 0 .pset wPset ∧ (prog wPadd).readyAt 0 .padd wPadd ∧
    ((prog (wCnt 0 7)).readyAt 0 .cnt (wCnt 0 7) ∧ wf ((prog (wCnt 0 7)).wordAt 0) 28 3 = 0) ∧
    ((prog (wCnt 1 7)).readyAt 0 .cnt (wCnt 1 7) ∧ wf ((prog (wCnt 1 7)).wordAt 0) 28 3 = 1) ∧
    ((prog (wCnt 2 0)).readyAt 0 .cnt (wCnt 2 0) ∧ wf ((prog (wCnt 2 0)).wordAt 0) 28 3 = 2) ∧
    ((prog (wCnt 3 0)).readyAt 0 .cnt (wCnt 3 0) ∧ wf ((prog (wCnt 3 0)).wordAt 0) 28 3 = 3) ∧
    ((prog (wCnt 4 0)).readyAt 0 .cnt (wCnt 4 0) ∧ wf ((prog (wCnt 4 0)).wordAt 0) 28 3 = 4) := by
  unfold State.readyAt; (repeat' apply And.intro) <;> decide +kernel

/-- Taken: always (3), if (1) and unless (2); not taken: no branch (0). -/
theorem witness_CompareBranch :
    (prog (wCmpb 0 3 4095 0)).readyAt 0 .cmpb (wCmpb 0 3 4095 0) ∧
    ((prog (wCmpb 0 1 2 0)).readyAt 0 .cmpb (wCmpb 0 1 2 0) ∧ cmpbTest 0 (cmpbA (prog (wCmpb 0 1 2 0)) 0 (wCmpb 0 1 2 0)) 0 = true) ∧
    ((prog (wCmpb 1 2 2 0)).readyAt 0 .cmpb (wCmpb 1 2 2 0) ∧ cmpbTest 1 (cmpbA (prog (wCmpb 1 2 2 0)) 0 (wCmpb 1 2 2 0)) 0 = false) ∧
    (prog (wCmpb 0 0 0 0)).readyAt 0 .cmpb (wCmpb 0 0 0 0) := by
  unfold State.readyAt; (repeat' apply And.intro) <;> decide +kernel

theorem witness_WaitsPassOrHold :
    ((prog (wNop 0)).readyAt 0 .nop (wNop 0) ∧ wf (wNop 0) 24 16 = 0) ∧
    ((prog (wNop 65535)).readyAt 0 .nop (wNop 65535) ∧ wf (wNop 65535) 24 16 ≠ 0) ∧
    ((prog (wTide 0 0 0)).readyAt 0 .wtide (wTide 0 0 0) ∧ wf (wTide 0 0 0) 24 2 = 0) ∧
    ((prog (wTide 1 0 0)).readyAt 0 .wtide (wTide 1 0 0) ∧ (prog (wTide 1 0 0)).curPhase = wf (wTide 1 0 0) 26 6) ∧
    ((prog (wTide 1 63 0)).readyAt 0 .wtide (wTide 1 63 0) ∧ (prog (wTide 1 63 0)).curPhase ≠ wf (wTide 1 63 0) 26 6) ∧
    ((prog (wTide 2 0 0)).readyAt 0 .wtide (wTide 2 0 0) ∧ wf (wTide 2 0 0) 32 20 ≤ (prog (wTide 2 0 0)).time.qclk) ∧
    ((prog (wTide 2 0 1)).readyAt 0 .wtide (wTide 2 0 1) ∧ (prog (wTide 2 0 1)).time.qclk < wf (wTide 2 0 1) 32 20) ∧
    ((prog (wWait 0 5)).readyAt 0 .waitc (wWait 0 5) ∧
      0 ≤ ((prog (wWait 0 5)).reg (kCnt 0 3) - w32 (wf (wWait 0 5) 32 32)).toInt) ∧
    ((prog (wWait 1 5)).readyAt 0 .waitc (wWait 1 5) ∧
      ((prog (wWait 1 5)).reg (kCnt 0 3) - w32 (wf (wWait 1 5) 32 32)).toInt < 0) ∧
    ((prog (wFence 31)).readyAt 0 .fence (wFence 31) ∧ ((prog (wFence 31)).quay 0).fenceDone 31 = true) ∧
    ((progOn { runner with cranes := [job1] } (wFence 1)).readyAt 0 .fence (wFence 1) ∧
      ((progOn { runner with cranes := [job1] } (wFence 1)).quay 0).fenceDone 1 = false) := by
  unfold State.readyAt; (repeat' apply And.intro) <;> decide +kernel

/-- A quay held in RUN by h. -/
def held (h : Hold) : State := withQuay State.reset 3 { runner with hold := h }
/-- A quay whose instruction at the issue point meets a live conflicting entry, with an SB_LIMIT. -/
def conflicted (w : Stall) : State := withQuay (withRegs State.reset [(qkey 3 0x13C, 100)]) 3 { runner with stall := w }

theorem witness_HoldsEndAndHalt :
    ((held (.nop 0)).quay 3).hold = .nop 0 ∧ ((held (.nop 4)).quay 3).hold = .nop (3 + 1) ∧
    (((held (.tideOffset 0)).quay 3).hold = .tideOffset 0 ∧ 0 ≤ (held (.tideOffset 0)).time.qclk) ∧
    (((held (.tideOffset 8)).quay 3).hold = .tideOffset 8 ∧ (held (.tideOffset 8)).time.qclk < 8) ∧
    (((held (.fence 31)).quay 3).hold = .fence 31 ∧
      ((withQuay State.reset 3 { runner with hold := .fence 1, cranes := [job1] }).quay 3).fenceDone 1 = false) ∧
    (((held (.waitc 2 0 9 0)).quay 3).hold = .waitc 2 0 9 0 ∧ 0 ≤ ((held (.waitc 2 0 9 0)).reg (kCnt 3 2) - 0).toInt) ∧
    (((held (.fence 31)).quay 3).hold = .fence 31 ∧ ((held (.fence 31)).quay 3).fenceDone 31 = true) ∧
    (((held (.waitc 2 1 9 9)).quay 3).st = .run ∧ ((held (.waitc 2 1 9 9)).quay 3).hold = .waitc 2 1 9 9 ∧
      ((held (.waitc 2 1 9 9)).reg (kCnt 3 2) - 1).toInt < 0) ∧ ((held (.waitc 2 1 9 8)).quay 3).hold = .waitc 2 1 9 8 ∧
    ((conflicted .conf).enabled 3 = true ∧ ((conflicted .conf).quay 3).st = .run ∧
      ((conflicted .conf).quay 3).stall = .conf ∧ getBits ((conflicted .conf).reg (qkey 3 0x13C)) 0 16 ≠ 0) ∧
    ((conflicted .full).quay 3).stall = .full ∧
    ((prog wHalt).readyAt 0 .halt wHalt ∧ ((prog wHalt).quay 0).fenceDone 31 = true) ∧
    ((progOn { runner with cranes := [job1] } wHalt).readyAt 0 .halt wHalt ∧
      ((progOn { runner with cranes := [job1] } wHalt).quay 0).fenceDone 31 = false) := by
  unfold State.readyAt; (repeat' apply And.intro) <;> decide +kernel
/-! #### Gantries, cranes and the vector engine -/

/-- The state with bytes placed in the stack. -/
def withMem (s : State) (a : Nat) (bs : List Byte) : State :=
  { s with stack := { s.stack with mem := s.stack.mem.write a bs } }

/-- A MOV of one 64 B word from the apron of quay 0 to its hold column. -/
def wMov : W128 := wd [(0, 0x10), (24, 0), (56, 2 ^ 22)]
/-- A MOV of an FP8 tile from the hold column into slot 3 of half 1. -/
def wFill : W128 := wd [(0, 0x10), (24, 2 ^ 22), (56, 1), (57, 3), (122, 1)]
def mMov : State := withMem (prog wMov) 0 [1, 2, 3]
def mFill : State := withMem (prog wFill) (2 ^ 28) [5]

theorem witness_MovMovesWords : mMov.readyAt 0 .mov wMov ∧ wf wMov 122 1 = 0 ∧
    sadrCheck mMov (wf wMov 24 32) (movSides wMov).1 24 = none ∧ sadrCheck mMov (wf wMov 56 32) (movSides wMov).2 56 = none ∧
    mMov.unitFree 0 (.gantry (wf wMov 121 1)) false (movMemRegions 0 wMov) true (mMov.budget 0 2 (wf wMov 121 1)) ∧
    (mMov.quay 0).gant (wf wMov 121 1) = [] ∧ movReach 0 wMov mMov = true ∧ movRefused 0 mMov 0 (movWords wMov) = none ∧
    mMov.stack.ecc = [] ∧ (mMov.quay (saQuay (sadr (wf wMov 24 32)))).st ≠ .scrub ∧
    (mMov.quay (saQuay (sadr (wf wMov 56 32)))).st ≠ .scrub := by
  unfold State.readyAt State.unitFree; (repeat' apply And.intro) <;> decide +kernel

theorem witness_MovFillsSlots : mFill.readyAt 0 .mov wFill ∧ wf wFill 122 1 = 1 ∧
    sadrCheck mFill (wf wFill 24 32) (fillBytes wFill) 24 = none ∧
    mFill.unitFree 0 (.gantry (wf wFill 121 1)) false
      (stackRegion 0 (sadr (wf wFill 24 32)) (fillBytes wFill) false ++ [halfRegion (wf wFill 56 1) true]) true
      (mFill.budget 0 2 (wf wFill 121 1)) ∧
    (mFill.quay 0).gant (wf wFill 121 1) = [] ∧ movReach 0 wFill mFill = true ∧ mFill.stack.ecc = [] ∧
    (mFill.quay (saQuay (sadr (wf wFill 24 32)))).st ≠ .scrub := by
  unfold State.readyAt State.unitFree; (repeat' apply And.intro) <;> decide +kernel

/-- A gantry job. -/
def gjob : GantJob :=
  { id := 9, index := 0, word := wFill, started := true, isMov := true, fill := some (1, 3, 1), failed := false }

theorem witness_GantryRetiresAndCompletes :
    (let s := withQuay State.reset 5 { runner with gant1 := [gjob] }
     (s.quay 5).gant 1 = [gjob] ∧ gjob.started = true ∧ gjob.failed = false ∧ gjob.isMov = true ∧
      ∀ k ∈ (s.quay 5).sends, k.id ≠ gjob.id) ∧
    (let s := withQuay State.reset 5 { runner with moving0 := [gjob] }
     (s.quay 5).moving 0 = gjob :: [] ∧ (∀ k ∈ ([] : List GantJob), k.id ≠ gjob.id) ∧
      ∀ k ∈ (s.quay 5).gant 0, k.id ≠ gjob.id) := by
  (repeat' apply And.intro) <;> decide +kernel

/-- A SEND WRITE and a SEND READ of 64 B to EID 5, which a unicast route names. -/
def wSend (read : Nat) : W128 := wd [(0, 0x11), (37, 1), (47, 5), (95, 2), (105, read)]
def mSend (read : Nat) : State :=
  let s := prog (wSend read)
  { s with fabric := { s.fabric with routes := [(5, { w0 := 1, w1 := 0, w2 := 0, w3 := 0 })] } }

/-- The same with a failure record that has the fields of the WRITE. -/
def mAgain : State :=
  let s := mSend 0
  s.setQuay 0 { s.quay 0 with
    recs0 := [{ tagBase := 9, eid := 5, raddr := 0, lbase := 0, nlen := 1, lcnt := 2, rcnt := 0, vc := 0, age := 0 }] }

theorem witness_SendInjectsPackets : ∀ p ∈ [(0, mSend 0), (1, mSend 1), (0, mAgain)],
    let w := wSend p.1
    let s := p.2
    let f := sendWord w
    let g := wf w 106 1
    let rs := if f.nlen = 0 then [] else [apronRegion (64 * f.lbase) (64 * f.nlen) f.read]
    s.readyAt 0 .send w ∧ apronBounds (64 * f.lbase) (64 * f.nlen) = none ∧ sendTarget s f (64 * f.nlen) = none ∧
    sendEid s f = none ∧ s.unitFree 0 (.gantry g) false rs true (s.budget 0 2 g) ∧ (s.quay 0).gant g = [] ∧
    ((if f.read then none else ((s.quay 0).recs g).find? (fun r => r.matches f)).isSome = decide (s = mAgain)) ∧
    ((s.quay 0).outs g).length + sendCount f.nlen ≤ 256 ∧
    (∀ k ∈ (s.quay 0).sends, k.id ≠ (s.quay 0).nextId) ∧ s.stack.ecc = [] := by
  unfold State.readyAt State.unitFree; intro p hp
  simp only [List.mem_cons, List.not_mem_nil, or_false] at hp
  rcases hp with rfl | rfl | rfl <;> (intros; (repeat' apply And.intro) <;> decide +kernel)

/-- An FP8 MMA of one row by one tile in slot 0 of half 0, crane 3, row 63. -/
def wMma (op : Nat) : W128 := wd [(0, op), (24, 3), (44, 0), (101, 63)]
def mMma (op : Nat) : State :=
  withMem (progOn { runner with slots := [(0, .full)], wb := [(0, 0x38)] } (wMma op)) 0 [0x38]

theorem witness_MmaComputesRows : ∀ ow : Bool,
    let w := wMma (if ow then 0x20 else 0x21)
    let s := mMma (if ow then 0x20 else 0x21)
    let j := mmaJob (s.quay 0) (if ow then .ow else .ac) w
    s.readyAt 0 (if ow then .mmaOw else .mmaAc) w ∧
    apronBounds (wf w 44 13 * 64) (mmaActLen w) = none ∧ (isMx j.afmt = true → apronBounds (wf w 70 19) (mmaScaleLen w) = none) ∧
    s.unitFree 0 .cranes (wf w 42 1 = 1) (mmaRegions w) ((s.quay 0).cranesAccept j.cranes) 
      (s.budget 0 0 ((s.quay 0).cranesWith j.cranes)) ∧
    (∀ i, i < chainTiles (wf w 29 2) → (s.quay 0).tileFull j.wfmt j.half (wf w 32 2 + i * tileSlots j.wfmt) = true) ∧
    (ow = false → badAnchor (s.quay 0) j.cranes j.m0 j.rows j.anchor = none) ∧ s.stack.ecc = [] := by
  unfold State.readyAt State.unitFree; intro ow; cases ow <;> (intros; (repeat' apply And.intro) <;> decide +kernel)

/-- A load of one ACC128 row of zeros into row 63 of crane 2. -/
def wLoad (op : Nat) : W128 := wd [(0, op), (24, 2), (26, 63), (57, 17)]

theorem witness_LoadFormsReadRows : ∀ ldo : Bool,
    let w := wLoad (if ldo then 0x22 else 0x23)
    let s := prog w
    let j := rowJob (s.quay 0) (if ldo then .ldo else .lda) w
    let a := stackAddr 0 0 (wf w 44 13 * 64)
    let str := wf w 57 13 * 64
    s.readyAt 0 (if ldo then .mmaLdo else .mmaLda) w ∧ apronBounds (wf w 44 13 * 64) ((j.rows - 1) * str + 1056) = none ∧
    s.unitFree 0 .cranes false (loadRegions w) ((s.quay 0).cranesAccept [wf w 24 2])
      (s.budget 0 0 ((s.quay 0).cranesWith [wf w 24 2])) ∧
    badLoad (s.quay 0) j ((List.range j.rows).map (fun i => s.stack.mem.read (a + 1048 + i * str) 2)) = none ∧
    s.stack.ecc = [] := by
  unfold State.readyAt State.unitFree; intro ldo; cases ldo <;> (intros; (repeat' apply And.intro) <;> decide +kernel)

/-- A drain of row 5 of crane 1 in FP32. -/
def wDrain : W128 := wd [(0, 0x24), (24, 1), (26, 5), (57, 4)]

theorem witness_DrainWritesRows :
    let s := prog wDrain
    let j := rowJob (s.quay 0) .dr wDrain
    s.readyAt 0 .mmaDr wDrain ∧ firstRaised (drainBounds s 0 wDrain) = none ∧
    s.unitFree 0 .cranes false (drainRegions s 0 wDrain) ((s.quay 0).cranesAccept j.cranes)
      (s.budget 0 0 ((s.quay 0).cranesWith j.cranes)) ∧
    trapOf s 0 (wf wDrain 24 2) j.m0 j.rows 0 64 = none ∧ s.stack.ecc = [] := by
  unfold State.readyAt State.unitFree; intros; (repeat' apply And.intro) <;> decide +kernel

/-- A stream-behind MMA that waits for the tile in slot 2, which is FILLING. -/
def behind : State := withQuay State.reset 7
  { runner with cranes := [{ job1 with waiting := [(0, 2)] }], slots := [(2, .filling)],
                gant0 := [{ gjob with fill := some (0, 2, 1) }] }

theorem witness_CranesLoadAndFinish :
    ((behind.quay 7).cranes = [{ job1 with waiting := [(0, 2)] }] ∧ job1.cranes.contains 0 = true ∧
      (behind.quay 7).tileEmpty job1.wfmt job1.half 2 = false ∧
      ((behind.quay 7).slotsDone job1.half (2 + tileSlots job1.wfmt - 1)).tileFull job1.wfmt job1.half 2 = true ∧
      (∀ c ∈ job1.cranes, c < 4) ∧ job1.cranes.Nodup ∧ 0 < job1.rows ∧ job1.m0 + job1.rows ≤ 64) ∧
    (∀ f ∈ [none, some (0x2C, 0), some (0x74, 0)],
      let j := { job1 with fault := f }
      let s := withQuay State.reset 7 { runner with cranes := [j] }
      (s.quay 7).craneHead 0 = some j ∧ (s.quay 7).st = .run ∧ ∀ c ∈ j.cranes, ∀ k ∈ (s.quay 7).craneHead c, k.id = j.id) ∧
    (let j := { job1 with id := 10, cranes := [0, 1] }
     let x := (withQuay State.reset 7 { runner with cranes := [job1, j] }).quay 7
     x.craneHead 1 = some j ∧ x.craneHead 0 = some job1 ∧ job1.id ≠ j.id) ∧
    ((behind.quay 7).craneHead 0).map (·.waiting) = some [(0, 2)] := by
  (repeat' apply And.intro) <;> decide +kernel

/-- A tensor descriptor of rank 1 or 2 over the apron. -/
def tensor (base typ : Nat) (sizes : List Nat) (strides : List Nat) : List Byte :=
  leBytes 32 (base + typ * 2 ^ 20 + sizes.length * 2 ^ 24 +
    ((List.range sizes.length).map (fun k => (sizes.getD k 0) * 2 ^ (32 + 16 * k) + (strides.getD k 0) * 2 ^ (112 + 20 * k))).sum)

/-- OUT0 = IN0 + IN0 over two FP32 elements, 1.0 and 2.0. -/
def mVch : State :=
  [(0x400, tensor 0x1000 0 [2] [4]), (0x420, tensor 0x2000 0 [2] [4]), (0x1000, leBytes 4 0x3F800000 ++ leBytes 4 0x40000000),
    (0, leBytes 2 32 ++ leBytes 2 0xFFFF ++ leBytes 2 0xFFFF ++ leBytes 2 33 ++ leBytes 2 0xFFFF ++ [1]),
    (32, leBytes 8 (1 + 8 * 2 ^ 8 + 8 * 2 ^ 12 + 15 * 2 ^ 16))].foldl (fun s p => withMem s p.1 p.2) (prog (wd [(0, 0x30)]))
def wVcmp : W128 := wd [(0, 0x31), (24, 32), (38, 33), (52, 34), (66, 35), (80, 0x3FFF), (94, 3)]
def mVcmp : State :=
  [(0x400, tensor 0x1000 5 [2, 1] [4, 8]), (0x420, tensor 0x1800 5 [1, 1] [4, 4]), (0x440, tensor 0x2000 5 [2, 1] [4, 8]),
    (0x460, tensor 0x2800 5 [1] [4]), (0x1000, [7, 0, 0, 0, 8]), (0x1800, [1])].foldl
    (fun s p => withMem s p.1 p.2) (prog wVcmp)
def wVexp : W128 := wd [(0, 0x32), (24, 32), (38, 33), (52, 0x3FFF), (66, 34)]
def mVexp : State :=
  [(0x400, tensor 0x1000 0 [2, 1] [4, 8]), (0x420, tensor 0x1800 5 [1] [4]), (0x440, tensor 0x2000 0 [2, 1] [4, 8]),
    (0x1000, leBytes 4 0x3F800000)].foldl (fun s p => withMem s p.1 p.2) (prog wVexp)

/-- The work that a VE instruction of quay 0 is checked as. -/
def workOf (s : State) (w : W128) : VeWork :=
  match veCheck (fun a n => s.apron 0 a n) w with
  | .ok c => c
  | .error _ => .compress { d := descOf 0 [], p := descOf 0 [], o := descOf 0 [], x := descOf 0 [], f := none, key := false, buckets := 0, cnt := 0 }

theorem witness_VectorInstructionsRun :
    (mVch.readyAt 0 .vch (wd [(0, 0x30)]) ∧ mVch.veReady 0 (wd [(0, 0x30)]) (workOf mVch (wd [(0, 0x30)]))) ∧
    (mVcmp.readyAt 0 .vcmp wVcmp ∧ mVcmp.veReady 0 wVcmp (workOf mVcmp wVcmp)) ∧
    (mVexp.readyAt 0 .vexp wVexp ∧ mVexp.veReady 0 wVexp (workOf mVexp wVexp)) := by
  unfold State.readyAt State.veReady; (repeat' apply And.intro) <;> decide +kernel
/-! #### Quay commands, registers and the memory stack -/

/-- A VE job of the VCH of `mVch`, with its bytes latched. -/
def vjob : VeJob :=
  { id := 4, index := 0, word := wd [(0, 0x30)], latched := mVch.stack.mem, params := [], dur := 12, started := false,
    ran := 0, scan := none, frees := [] }

/-- A VCH of one row of accumulators of crane 0, whose flagged overflow traps. -/
def mTrap : State :=
  let s := [(0x400, leBytes 32 (2 * 2 ^ 24 + 2 ^ 27 + 64 * 2 ^ 32 + 2 ^ 48)), (0x420, tensor 0x2000 0 [64, 1] [4, 256]),
    (0, leBytes 2 32 ++ leBytes 2 0xFFFF ++ leBytes 2 0xFFFF ++ leBytes 2 33 ++ leBytes 2 0xFFFF ++ [1]),
    (32, leBytes 8 (1 + 8 * 2 ^ 8 + 8 * 2 ^ 12 + 15 * 2 ^ 16))].foldl (fun s p => withMem s p.1 p.2)
      (withRegs (prog (wd [(0, 0x30)])) [(qkey 0 0x184, 1)])
  withQuay s 0 { s.quay 0 with ve := some { vjob with latched := s.stack.mem },
                               acc := [(0, { AccElem.init with ovf := true })] }

theorem witness_VectorQueueAdvances :
    (let s := withQuay mVch 0 { runner with veWait := some vjob }
     (s.quay 0).ve = none ∧ (s.quay 0).veWait = some vjob ∧
      veCheck (fun a n => vjob.latched.read a n) vjob.word = .ok (workOf mVch vjob.word) ∧
      veTrap s 0 (workOf mVch vjob.word).inputs = none ∧ s.stack.ecc = []) ∧
    (let s := withQuay mVch 0 { runner with ve := some vjob }
     (s.quay 0).ve = some vjob ∧ vjob.started = false) ∧
    (mTrap.stack.ecc = [] ∧ (mTrap.quay 0).st = .run ∧ veCheck (fun a n => mTrap.stack.mem.read a n) vjob.word =
      .ok (workOf mTrap vjob.word) ∧ veTrap mTrap 0 (workOf mTrap vjob.word).inputs = some (0x2D, 0)) ∧
    (∀ c ∈ [none, some (9, 15, 3)], let j := { vjob with started := true, scan := c }
      ((withQuay State.reset 2 { runner with ve := some j }).quay 2).ve = some j ∧
      j.scan.all (fun e => decide (e.2.1 < 16)) = true) := by
  (repeat' apply And.intro) <;> decide +kernel

/-- A module whose chart is RUNNING. -/
def sailing : State := withRegs State.reset [(0x100004, 4)]
/-- The same with a program in quay 1, which is in the given state. -/
def quayIn (st : QState) : State := withQuay (withRegs sailing [(qkey 1 8, 4096)]) 1 { Quay.init with st := st }

theorem witness_QuayCommands :
    (let s := quayIn .run
     (s.enabled 1 = true ∧ (s.quay 1).st = .run) ∧ ¬ (s.quay 1).st.isStopped = true) ∧
    ¬ ((quayIn .halted).quay 1).st = .run ∧
    (∀ st ∈ [QState.halted, .stopped], let s := quayIn st
      s.enabled 1 = true ∧ s.chartRuns = true ∧ (s.quay 1).st = st ∧ (s.quay 1).st.isStopped = true ∧ s.logLen 1 ≠ 0) ∧
    (let s := withRegs (quayIn .faulted) [(qkey 1 0x20, 5)]
     s.enabled 1 = true ∧ s.chartRuns = true ∧ (s.quay 1).st = .faulted ∧ getBits (s.reg (qkey 1 0x20)) 2 1 = 1) ∧
    ¬ (State.reset.chartRuns = true) := by
  decide +kernel

theorem witness_ResetClearsAndDrainEnds :
    (let s := quayIn .faulted; s.enabled 1 = true ∧ (s.quay 1).st.isStopped = true) ∧ ((quayIn .reset).quay 1).st = .reset ∧
    (∀ d ∈ [DrainTo.stopped, .halted, .faulted],
      let s := withQuay State.reset 143 { Quay.init with st := .draining, drainTo := d }
      (s.quay 143).st = .draining ∧ (s.quay 143).idleUnits = true ∧ (s.quay 143).drainTo = d) := by
  decide +kernel

theorem witness_QuayRegisterWrites :
    (let s := State.reset
     s.enabled 0 = true ∧ (s.quay 0).st.isStopped = true ∧
      getBits (mergeBits (s.reg (qkey 0 8)) (writeForm (s.maskMode 5) false 4096)) 0 13 ≤ 4096) ∧
    ¬ ((quayIn .run).quay 1).st.isStopped = true ∧
    (writeForm (State.reset.maskMode 5) false 0).2 ≠ 0 ∧
    ((writeForm (State.reset.maskMode 5) false 0).2 &&& 0xFFFF) ≠ 0 ∧ ¬ (State.reset.chartState = 4 ∨ State.reset.chartState = 5) ∧
    sailing.chartState = 4 ∧ (withRegs State.reset [(0x100004, 5)]).chartState = 5 ∧
    (let f := writeForm ((withRegs State.reset [(0x400, 0x20)]).maskMode 5) false 0xFFFF
     f.2 = 0 ∧ (if true then (f.1 &&& 0xFFFF, f.2 &&& 0xFFFF) else f).2 = 0) := by
  decide +kernel

theorem witness_ArmingFixesBatches :
    (let s := { sailing with tide := { Tide.init with applied := true } }; s.chartRuns = true ∧ s.tide.applied = true) ∧
    (withRegs State.reset [(0x100004, 3)]).chartState = 3 ∧
    (let s := { withRegs State.reset [(0x100004, 0x44)] with tide := { Tide.init with loaded := true } }
     s.stby = 4 ∧ s.tide.loaded = true) ∧
    State.reset.enabled 135 = true ∧ State.reset.enabled 136 = false := by
  decide +kernel

/-- ClearsAndPops has no hypothesis but that a key lies in a range. -/
theorem witness_ClearsAndPops : qkey 0 0x1A0 ≤ qkey 0 0x1CF ∧ qkey 0 0x1CF < qkey 0 0x1A0 + 0x30 ∧
    qkey 0 0x12F < qkey 0 0x130 := by
  decide +kernel

theorem witness_CorrectionAndTemperature :
    State.reset.enabled 0 = true ∧ 1520 < (1521 : BitVec 12).toNat ∧ 1360 < (1361 : BitVec 12).toNat ∧
    (1472 < (1473 : BitVec 12).toNat ∧ getBits ((withRegs State.reset [(kMem 0, 2 ^ 19)]).reg (kMem 0)) 18 2 = 2) ∧
    (1312 < (1313 : BitVec 12).toNat ∧ 1 ≤ getBits ((withRegs State.reset [(kMem 0, 2 ^ 18)]).reg (kMem 0)) 18 2) := by
  decide +kernel

/-- A chart with no quays, one refresh window and the given limits. -/
def plainChart : Chart :=
  { id := 7, parent := 0, sw := false, alternate := false, home := 3, flood := 0, period := 8, slackRetry := 0, slackTime := 0,
    elasticMax := 0, extStep := 2, extMax := 5, decide := 0, phases := [{ start := 0, tokset := 0, prefill := false },
    { start := 4, tokset := 1, prefill := true }], basins := [], shards := [], logbooks := [], routesAt := 0, eids := [], est := [],
    tokens := [], tokenBytes := 1, layers := 64, blockMode := 0x50, cto := 20, adaptMesh := false, adaptFabric := false,
    refreshClass := 0, windows := [{ start := 0, slots := 0, len := 0 }] }
/-- It runs, in Stillwater or not. -/
def underway (sw : Bool) : State :=
  { withRegs State.reset [(0x100004, 4), (0x84, if sw then 1 else 0)] with
    tide := { Tide.init with chart := some plainChart, base := 1280 }, c64 := [(0x100038, 1280)] }

theorem witness_RefreshAndRepair :
    (underway true).stillwater = true ∧ (underway false).stillwater = false ∧ State.reset.enabled 0 = true ∧
    ((underway true).tide.chart = some plainChart ∧ 0 < plainChart.windows.length) ∧
    (let d := w32 (2 ^ 31 + 24575)
     getBits d 31 1 = 1 ∧ repairBad (repairOf d) = false ∧ (State.reset.quay (repairOf d).quay).st.isStopped = true ∧
      ((State.reset.stack.repairs ++ State.reset.stack.repairing).filter (fun x => x.group = (repairOf d).group &&
        x.die = (repairOf d).die && x.quay = (repairOf d).quay)).length < spares (repairOf d).group (repairOf d).die) ∧
    (let d := w32 (2 ^ 31 + 24576); getBits d 31 1 = 1 ∧ repairBad (repairOf d) = true) ∧
    (let d := w32 (2 ^ 31 + 2 ^ 19); getBits d 31 1 = 1 ∧ ((quayIn .run).quay (repairOf d).quay).st.isStopped = false) ∧
    (let s := { State.reset with stack := { Stack.init with repairing := [repairOf 5] } }
     s.stack.repairing = repairOf 5 :: []) := by
  decide +kernel

theorem witness_ScrubsClear :
    ((withQuay State.reset 143 { Quay.init with st := .scrub }).quay 143).st = .scrub ∧
    (let s := { State.reset with stack := { Stack.init with zero := [cidOf 143 0xFFFF], container := 4096 } }
     cidOf 143 65535 ∈ s.stack.zero) := by
  decide +kernel
/-! #### Charts, tides, ports and the time base -/

/-- CHART_START at 1,000 ns, with a chart state. -/
def harbour (st : Nat) : State := { withRegs State.reset [(0x100004, st), (0x100008, 1000)] with distValid := true }
/-- The submission of it. -/
def sub1 (sw : Bool) : Submission := { buf := false, startAt := 1000, switchAt := 0, enAt := 0, isSwitch := sw, again := false }

theorem witness_ChartCommands :
    (∀ st ∈ [0, 6], (harbour st).power.replan = false ∧ (harbour st).chartEnOk false false = true ∧
      (harbour st).now.toNat < ((harbour st).pair (kChart 8)).toNat) ∧
    (harbour 4).chartEnOk false false = false ∧
    ((harbour 4).power.replan = false ∧ (harbour 4).chartEnOk true true = true ∧
      (harbour 4).now.toNat < ((harbour 4).pair (kChart 8)).toNat ∧ (harbour 4).chartState = 4) ∧
    (harbour 0).chartEnOk true true = false ∧ (harbour 0).chartState ≠ 4 ∧ State.reset.distValid = false ∧
    ({ harbour 0 with power := { Power.init with replan := true } } : State).power.replan = true := by
  decide +kernel

/-- A chart in its check or load. -/
def preparing (st : Nat) : State :=
  { harbour st with tide := { Tide.init with sub := some (sub1 false), chart := if st = 2 then some plainChart else none } }

theorem witness_ChartPreparationEnds :
    ((preparing 1).stby = 0 ∧ (preparing 1).chartState = 1 ∧ (preparing 1).batchesOk = true ∧
      (preparing 1).tide.sub = some (sub1 false) ∧ (sub1 false).isSwitch = false ∧
      (preparing 1).now.toNat < (sub1 false).startAt.toNat) ∧
    (checkImage (preparing 1) false ((preparing 1).imageIn false) = some 0xA0) ∧
    ((sub1 false).enAt + 50000000).toNat < ({ sub1 false with startAt := 50000001 } : Submission).startAt.toNat ∧
    (sub1 false).startAt.toNat ≤ ((sub1 false).enAt + 50000000).toNat ∧
    ((preparing 2).chartState = 2 ∧ (preparing 2).tide.sub = some (sub1 false) ∧ (preparing 2).tide.chart = some plainChart ∧
      (preparing 2).tide.loaded = false ∧ (preparing 2).tide.loadFailed = false ∧ (preparing 2).silo.badPages = [] ∧
      getBits ((preparing 2).reg (kMb 0x6C)) 0 4 ≠ 1 ∧ (plainChart.logbooks.map (·.quay)).Nodup ∧
      ∀ r ∈ plainChart.logbooks, r.quay < 144 ∧ r.len ≤ 4096 ∧ r.params.length ≤ 64) ∧
    (let r : LogRec := { quay := 143, lag := 0, len := 4096, start := 0, sbLimit := 0, params := List.replicate 64 0, code := 0 }
     let c := { plainChart with logbooks := [r] }
     (c.logbooks.map (·.quay)).Nodup ∧ ∀ r ∈ c.logbooks, r.quay < 144 ∧ r.len ≤ 4096 ∧ r.params.length ≤ 64) := by
  decide +kernel

/-- An ARMED chart with or without its load, over an enabled quay of a basin with a program. -/
def armedChart (loaded : Bool) : State :=
  let s := withRegs (harbour 3) [(qkey 0 0x40, 2 ^ 31), (qkey 0 8, 1)]
  { s with tide := { Tide.init with sub := some (sub1 false), chart := some plainChart, loaded := loaded } }

theorem witness_ChartStartsAndDrains :
    (∀ l : Bool, (armedChart l).stby = 0 ∧ (armedChart l).batchesOk = true ∧ (armedChart l).chartState = 3 ∧
      (armedChart l).tide.sub = some (sub1 false) ∧ (armedChart l).tide.chart = some plainChart ∧
      (armedChart l).tide.loaded = l) ∧
    ((armedChart true).enabled 0 = true ∧ getBits ((armedChart true).reg (qkey 0 0x40)) 31 1 = 1 ∧
      ((armedChart true).quay 0).st = .idle ∧ (armedChart true).logLen 0 ≠ 0) ∧
    (let s := { harbour 0x34 with tide := { Tide.init with succ := some plainChart, succSub := some (sub1 true) } }
     s.allStopped = true ∧ s.batchesOk = true ∧ s.tide.succ = some plainChart ∧ s.tide.succSub = some (sub1 true) ∧ s.stby = 3) ∧
    (let s := { harbour 5 with tide := { Tide.init with ended := true } }
     s.allStopped = true ∧ s.batchesOk = true ∧ s.chartState = 5 ∧ s.tide.ended = true) := by
  decide +kernel

theorem witness_BoundaryAdvancesTide :
    let s := withQuay (underway false) 1 { runner with hold := .tideNext }
    s.tide.chart = some plainChart ∧ s.chartRuns = true ∧ s.batchesOk = true ∧ plainChart.elasticMax = 0 ∧
    s.tide.heldSince = none ∧ s.tideIdx.toNat + 1 < 2 ^ 64 ∧
    s.enabled 1 = true ∧ (s.quay 1).st = .run ∧ (s.quay 1).hold = .tideNext ∧ s.stopsAt (s.tideIdx.toNat + 1) = false := by
  decide +kernel

/-- A running tide with the given part of the tide sequencer. -/
def tideWith (f : Tide → Tide) : State := { underway false with tide := f (underway false).tide }

theorem witness_PhasesHoldsAndExtensions :
    (let s := withQuay (underway false) 143 { runner with hold := .tidePhase 1 }
     s.tide.chart = some plainChart ∧ s.chartRuns = true ∧ s.tide.heldSince = none ∧
      (plainChart.phases.drop (s.curPhase + 1)).head? = some { start := 4, tokset := 1, prefill := true } ∧
      s.curPhase + 1 < 64 ∧ (s.quay 143).st = .run ∧ (s.quay 143).hold = .tidePhase (s.curPhase + 1) ∧
      (s.passTo s.nextBnd).mustHold plainChart = false) ∧
    (let c := { plainChart with elasticMax := 4, basins := [{ quays := [0], tenant := 1, elastic := true }] }
     let s := withQuay { underway false with tide := { Tide.init with chart := some c, base := 1280 }, c64 := [(0x100038, 9)] } 0 runner
     s.tide.chart = some c ∧ s.chartRuns = true ∧ s.tide.heldSince = none ∧ s.now.toNat < s.nextBnd.toNat ∧
      (s.passTo s.nextBnd).mustHold c = true) ∧
    ((underway false).stby ≠ 4 ∧ (underway false).tide.decided = false ∧ (underway false).tide.applied = false ∧
      plainChart.extStep * (underway false).overSlack plainChart ((underway false).worstPort plainChart) = 0 ∧
      (underway false).largestExt ((underway false).tideIdx + 1) = none) ∧
    ((armedChart true).chartState = 3 ∧ (armedChart true).stby ≠ 4 ∧ (armedChart true).tide.chart = some plainChart) ∧
    (let c := plainChart
     let s := { underway false with ports := [(15, { Port.init with st := .up, retries := 3 })] }
     min (c.extStep * s.overSlack c (s.worstPort c)) c.extMax = 5 ∧ s.linksUp = [15]) ∧
    (let x : Extension := { boundary := 1, e := 5, remote := false, port := 0, clamp := false }
     let s := tideWith (fun t => { t with exts := [x] })
     s.largestExt (s.tideIdx + 1) = some x ∧ s.extLog.length < 16 ∧
      16 ≤ ({ s with extLog := List.replicate 16 { ts := 0, w2 := 0, w3 := 0 } } : State).extLog.length) := by
  decide +kernel

/-- Port p with a state. -/
def withPort (p : Nat) (x : Port) : State := { State.reset with ports := [(p, x)] }
/-- A port in a training state. -/
def portIn (st : PState) : State := withPort 3 { Port.init with st := st }

theorem witness_PortControl :
    ((portIn .off).port 3).st = .off ∧ (portIn .off).portDead 3 = false ∧
    ({ portIn .off with pbad := 8 } : State).portDead 3 = true ∧
    (((portIn .up).port 3).st ≠ .off ∧ ((portIn .up).port 3).retry = [] ∧ ((portIn .up).port 3).egress = [] ∧
      ((portIn .up).port 3).st = .up) ∧ ((portIn .recovery).port 3).st ≠ .up ∧
    (2 % 4 + (1 : BitVec 2).toNat < 4 ∧ (portIn .off).lashOk 2 1 = true ∧ (portIn .off).lashOk 2 0 = true) ∧
    (let s := withPort 3 { Port.init with st := .up }
     s.lashOk 2 1 = false ∧ s.lashOk 3 0 = false ∧ getBits (s.reg (pkey 3 0)) 4 2 = (0 : BitVec 2).toNat) ∧
    4 ≤ 3 % 4 + (1 : BitVec 2).toNat := by
  decide +kernel

theorem witness_PortTraining :
    ((portIn .detect).training 3 .detect = true ∧
      4 ≤ ((List.range 8).filter (fun i => (0x0F : BitVec 8).getLsbD i)).length) ∧
    (withRegs State.reset [(kBw 0x34, 0x80)]).calBad 3 = true ∧
    (portIn .seed).training 3 .seed = true ∧ (portIn .eq).training 3 .eq = true ∧ (portIn .align).training 3 .align = true ∧
    (((portIn .align).port 3).flits = [] ∧ ((portIn .align).port 3).retry = [] ∧ ((portIn .align).port 3).egress = [] ∧
      (portIn .align).portGroup 3 = [3] ∧ ((portIn .recovery).port 3).st = .recovery) ∧
    (portIn .align).lashed 3 = false ∧
    (withRegs (portIn .align) [(pkey 2 0, 0x10)]).lashed 3 = true ∧
    (let r : Trained := { lanes := 0xFF, reversed := false, pol := 0, skew := 0 }
     let s := fun (x : Port) => withRegs { State.reset with ports := [(2, x), (3, { Port.init with st := .align })] } [(pkey 2 0, 0x10)]
     let done := s { Port.init with st := .align, trained := some r }
     (done.portGroup 3 = [2, 3] ∧ done.training 3 .align = true ∧ (done.port 2).trained.isSome = true ∧
       ∀ n ∈ done.portGroup 3, n ≠ 3 → done.stillTrains n = false) ∧
     ((s { Port.init with st := .eq }).training 3 .align = true ∧ 2 ∈ (s { Port.init with st := .eq }).portGroup 3 ∧
       (s { Port.init with st := .eq }).stillTrains 2 = true) ∧
     ∀ m ∈ (s Port.init).portGroup 3, m ≠ 3 → (s Port.init).stillTrains m = false ∧ ((s Port.init).port m).trained = none) ∧
    (let lo : Bool := decide (fld (0x0F : BitVec 8).toNat 0 4 = 15)
     (0x0F : BitVec 8) ≠ 0xFF ∧ lo = true ∧ getBits ((withRegs State.reset [(pkey 3 0, 2)]).reg (pkey 3 0)) 1 1 = 1) ∧
    getBits (State.reset.reg (pkey 3 0)) 1 1 = 0 ∧
    ((withPort 3 { Port.init with failed := true }).port 3).failed = true ∧
    (∀ n ∈ [1, 2], let x := (withPort 3 { Port.init with st := .recovery, attempts := n }).port 3
      x.st = .recovery ∧ (x.attempts < 2 ↔ n = 1) ∧ x.retry = [] ∧ x.egress = []) := by
  decide +kernel

/-- A flit of zeros in its place after FSEQ 4095, with a good or a broken FCRC. -/
def flit (good : Bool) : List Byte :=
  let f := List.replicate 252 0
  f ++ leBytes 4 ((crc32c f).toNat + bit (!good))

/-- Port 3 of a module in the service regime, or in the end-to-end regime. -/
def linkOf (e2e : Bool) (x : Port) : State := { withRegs State.reset [(kFab 0, bit e2e)] with ports := [(3, x)] }

theorem witness_LinkReceives :
    (let x : Port := { Port.init with st := .up }
     ((linkOf false x).port 3 = x ∧ (linkOf false x).e2eMode = false ∧ (linkOf true x).e2eMode = true ∧ x.st = .up ∧
      x.discarding = false ∧ x.egress = [] ∧ x.lpi = false ∧ (x.badSeen.map (·.2)).sum ≤ 64 ∧
      fld (leAt (flit true) 242 14) 80 32 = (crc32c ((flit true).take 252)).toNat ∧
      fld (leAt (flit true) 242 14) 24 4 = 0 ∧ fld (leAt (flit true) 242 14) 0 12 = (x.rxSeq + 1).toNat ∧
      fld (leAt (flit false) 242 14) 80 32 ≠ (crc32c ((flit false).take 252)).toNat ∧ x.wakeDue = []) ∧
      64 < ((x.badSeen.filter (fun (b : W64 × Nat) => decide (0 < b.1.toNat + 10000)) ++ [((0 : W64), 65)]).map
        (fun (b : W64 × Nat) => b.2)).sum) ∧
    (let s := withPort 3 { Port.init with st := .up, wakeDue := [(1, 2, 3)], lpi := true }
     (s.port 3).wakeDue = [(1, 2, 3)] ∧ s.fabric.gathers = [] ∧ (s.port 3).lpi = true ∧ s.tbRole ≠ 2) ∧
    (let s := { withRegs State.reset [(kTb 8, 2 + 3 * 16)] with ports := [(3, { Port.init with st := .up, lpi := true })] }
     (s.port 3).lpi = true ∧ s.tbRole = 2 ∧ (s.upMembers s.uplink).head? = some 3 ∧ s.time.t1 = none) ∧
    (let s := { underway false with ports := [(3, { Port.init with st := .up })] }
     s.chartRuns = true ∧ ¬ ((1 : W64).toNat ≤ s.tideIdx.toNat ∨ ((1 : W64) = s.tideIdx + 1 ∧ s.tide.applied = true)) ∧
      (0 : W64).toNat ≤ s.tideIdx.toNat ∧ s.largestExt 1 = none) ∧ State.reset.chartRuns = false ∧
    (let s := tideWith (fun t => { t with applied := true }); (1 : W64) = s.tideIdx + 1 ∧ s.tide.applied = true) ∧
    (let x : Extension := { boundary := 1, e := 5, remote := true, port := 0, clamp := false }
     (tideWith (fun t => { t with exts := [x] })).largestExt 1 = some x ∧ 5 ≤ x.e ∧ x.e < 6) := by
  decide +kernel

/-- A time base with a role and a state. -/
def clockIn (role st pulse : Nat) : State := withRegs State.reset [(kTb 8, role + pulse * 2 ^ 13), (kTb 0xC, st)]
/-- A FOLLOWER over port 0, with an exchange in progress or not. -/
def follower (st : Nat) (t1 : Option Int) : State :=
  { clockIn 2 st 0 with ports := [(0, { Port.init with st := .up })], time := { Time.init with t1 := t1 } }
/-- A FOLLOWER after three void exchanges in a row, with an exchange in progress, an alternate uplink or none, and in HOLDOVER since
0 or not. -/
def drifting (st : Nat) (alt : Bool) (h : Option W64) : State :=
  { withRegs (follower st (some 0)) [(kTb 8, 2 + 2 ^ 8 * bit alt)] with time := { Time.init with t1 := some 0, void := 3, holdSince := h } }

theorem witness_TimeBase :
    (pulseOk (getBits ((clockIn 1 2 0).reg (kTb 8)) 13 5) = true ∧ (clockIn 1 2 0).tbRole = 1 ∧
      getBits ((clockIn 1 2 0).reg (kTb 8)) 2 1 = 0) ∧
    (pulseOk (getBits ((clockIn 2 1 0).reg (kTb 8)) 13 5) = true ∧ (clockIn 2 1 0).tbRole = 2) ∧
    ((clockIn 5 2 0).tbRole = 1 ∧ getBits ((clockIn 5 2 0).reg (kTb 8)) 2 1 = 1) ∧
    (let s := clockIn 1 2 30
     s.tbRole = 1 ∧ getBits (s.reg (kTb 8)) 13 5 ≠ 0 ∧ (s.now.toNat / 2 ^ 30 + 1) * 2 ^ 30 < 2 ^ 64 ∧ s.time.loadAt = none ∧
      s.shadowed = false) ∧
    ((follower 1 none).tbRole = 2 ∧ (follower 1 none).time.t1 = none ∧
      (follower 1 none).upMembers (follower 1 none).uplink = 0 :: []) ∧
    ((follower 2 none).port 0).st = .up ∧
    ((follower 2 (some 0)).tbRole = 2 ∧ ((follower 2 (some 0)).upMembers (follower 2 (some 0)).uplink).head? = some 0 ∧
      (follower 2 (some 0)).time.t1 = some 0 ∧ (follower 2 (some 0)).tbState = 2 ∧
      ((((128 : Int) - 0) - (0 - 128)) / 2).natAbs ≤ 128 ∧ 128 < ((((129 : Int) - 0) - (0 - 129)) / 2).natAbs) ∧
    ((follower 1 (some 0)).tbState = 1 ∧ (follower 1 (some 0)).chartHolds = false) ∧
    (∀ st ∈ [3, 4], (follower st (some 0)).tbState ≠ 1 ∧ (drifting st false (some 0)).time.holdSince ≠ none) ∧
    ((drifting 2 true none).time.void = 3 ∧ (drifting 2 true none).linkUp (getBits ((drifting 2 true none).reg (kTb 8)) 9 4) = true ∧
      getBits ((drifting 2 true none).reg (kTb 8)) 8 1 = 1 ∧ getBits ((drifting 2 true none).reg (kTb 0xC)) 3 1 = 0) ∧
    ((drifting 4 false none).time.void = 3 ∧ getBits ((drifting 4 false none).reg (kTb 8)) 8 1 = 0 ∧ (drifting 4 false none).tbState ≠ 3) ∧
    ((drifting 3 false (some 0)).tbState = 3 ∧ (drifting 3 false (some 0)).time.holdSince = some 0) := by
  decide +kernel
/-! #### Packets, mailbox and berths -/

/-- Home EID 5, routes 5 to the stack, 6 to the pilots, 7 by port 2 that is UP, and quay 0 serves tenant 1. -/
def fleet : State :=
  { withRegs State.reset [(qkey 0 0x40, 0x40000001)] with
    ports := [(2, { Port.init with st := .up, credits := fullCredits })],
    fabric := { Fabric.init with
      home := 5, eids := [(5, 1)], routes := [(5, { w0 := 2, w1 := 0, w2 := 0, w3 := 0 }),
        (6, { w0 := 2 + 1 * 2 ^ 13, w1 := 0, w2 := 0, w3 := 0 }), (7, { w0 := 1 + 2 * 4, w1 := 0, w2 := 0, w3 := 0 })] } }
/-- A packet of quay 0 of this module to an EID. -/
def pkt (typ vc dst arg raddr : Nat) (body : List Byte) : Packet :=
  newPacket fleet typ vc (BitVec.ofNat 16 dst) 0 0 arg 9 (w32 raddr) body
/-- A WRITE of 64 B into the apron of quay 0. -/
def kWrite : Packet := pkt 1 0 5 0 0 (List.replicate 64 0xAB)
def kRead : Packet := pkt 2 0 5 0 0 []
def kQuench (typ : Nat) : Packet := pkt typ 4 5 0 0xF0001 []
def kWake : Packet := pkt 8 4 5 1 0 []
def kMessage : Packet := pkt 8 4 6 128 0 []
def kPass : Packet := pkt 1 0 7 0 0 (List.replicate 64 0xAB)
def kWakeOut : Packet := pkt 8 4 7 1 0 []

theorem witness_PacketsArrive :
    (kWrite.typ = 1 ∧ fleet.delivers .mesh kWrite kWrite 0 ∧ stackCase fleet kWrite (64 * kWrite.plen.toNat) = none ∧
      fleet.stack.ecc = [] ∧ fleet.ackRoom kWrite ∧ fleet.isDup kWrite = false) ∧
    (let s := { fleet with fabric := { fleet.fabric with windows := [{ src := 5, sunit := 0, tag := 9, time := 0 }] } }
     s.isDup kWrite = true ∧ stackCase s kWrite 64 = none ∧ s.ackRoom kWrite) ∧
    (kRead.typ = 2 ∧ fleet.delivers .mesh kRead kRead 0 ∧ stackCase fleet kRead (64 * (kRead.arg.toNat + 1)) = none) ∧
    ((kQuench 6).typ = 6 ∧ fleet.delivers .mesh (kQuench 6) (kQuench 6) 0 ∧ fleet.ackRoom (kQuench 6) ∧
      fleet.isDup (kQuench 6) = false) ∧
    ((kQuench 7).typ = 7 ∧ fleet.delivers .mesh (kQuench 7) (kQuench 7) 0 ∧ fleet.ackRoom (kQuench 7) ∧
      fleet.isDup (kQuench 7) = false) ∧
    (fleet.delivers .mesh kWake kWake 0 ∧ fleet.ackRoom kWake ∧ kWake.typ = 8 ∧ kWake.arg = 1 ∧ fleet.power.st = .a0 ∧
      fleet.wakeLog.length < 16) ∧
    (({ fleet with fabric := { fleet.fabric with mesh := [kMessage] } } : State).delivers .mesh kMessage kMessage 1 ∧
      kMessage.typ = 8 ∧ 128 ≤ kMessage.arg.toNat) ∧
    (fleet.admits .mesh kPass ∧ kPass = popLocal 4 fleet kPass ∧ fleet.fabric.adaptMesh = false ∧
      fleet.fabric.adaptFabric = false ∧ kPass.hops ≠ 0 ∧ ¬ (kPass.typ = 8 ∧ kPass.arg = 1) ∧
      kPass ∉ fleet.fabric.mesh ∧ (fleet.route kPass.routingEid).kind = 1 ∧ fleet.linkUp (fleet.route kPass.routingEid).primary = true ∧
      fleet.reachesPort (ingressAt .mesh kPass) (fleet.route kPass.routingEid).primary = true) ∧
    (let s := { withRegs fleet [(pkey 2 4, 0x1000)] with power := fleet.power }
     kWakeOut.typ = 8 ∧ kWakeOut.arg = 1 ∧ kWakeOut = popLocal 4 s kWakeOut ∧ (s.route kWakeOut.routingEid).kind = 1 ∧
      s.linkSleeps (s.route kWakeOut.routingEid).primary = true ∧ s.admits .mesh kWakeOut) ∧
    (let s := withRegs fleet [(kFab 0x20, 0xF00)]; (s.port 2).st = .up ∧ s.vcClosed 2 kPass.vc = true) ∧
    ((fleet.port 2).st = .up ∧ fleet.vcClosed 2 kPass.vc = false ∧ ({ kPass with hcrc := kPass.hcrc + 1 } : Packet).crcBad = true) := by
  unfold State.delivers State.admits State.ackRoom
  (repeat' apply And.intro) <;> 
    first | decide +kernel | (intro _ h; cases h) | exact .inr (.inr ⟨rfl, List.mem_singleton.mpr rfl⟩)

theorem witness_PacketsArrive_held : ∀ p, (fleet.port p).held = [] := by
  intro p
  by_cases h : (2 : Nat) = p <;> simp [fleet, State.port, tabGet, tabFind, h, Port.init]

/-- A SEND of quay 0 with one packet outstanding. -/
def sjob (write : Bool) : SendJob :=
  { id := 1, index := 0, gantry := 0, write := write, eid := 5, raddr := 0, lbase := 0, nlen := 1, lcnt := 15, rcnt := 0, vc := 0,
    tagBase := 9, left := 1, lost := false, todo := [] }
def sending (k : Packet) : State :=
  withQuay fleet 0 { runner with sends := [sjob (k.typ = 1)],
                                 out0 := [{ send := 1, pkt := k, acks := 1, resends := 2, lastSent := 0, start := 0 }] }
def kAck : Packet := pkt 4 4 5 1 0 []
def kRsp : Packet := pkt 3 2 5 0 0 (List.replicate 64 0xAB)
def kNack : Packet := pkt 5 4 5 0x4D 0 []

theorem witness_PacketsComplete :
    (sending kWrite).delivers .mesh kAck kAck 0 ∧ (sending kWrite).delivers .mesh kNack kNack 0 ∧ (sending kRead).delivers .mesh kRsp kRsp 0 ∧
    (∀ k ∈ [kWrite, kRead], (sending k).discards 0 = false ∧ ∀ o ∈ (sending k).findOut 0 9,
      ((sending k).quay 0).sends.find? (fun j => j.id = o.send) = some (sjob (k.typ = 1)) ∧ o.pkt = k ∧ o.acks ≤ 1) ∧
    ((sending kWrite).findOut 0 9).isSome = true ∧ ((sending kRead).findOut 0 9).isSome = true ∧
    (sjob true).todo = [] ∧ (sjob true).lcnt < 16 ∧ (kAck.typ = 4 ∧ kAck.arg = 1 ∧ kAck.tag = 9) ∧
    (kRsp.typ = 3 ∧ kRsp.plen.toNat = kRsp.arg.toNat + 1) ∧ (kNack.typ = 5 ∧ kNack.arg ≠ 0x4F) ∧
    (let s := { State.reset with fabric := { Fabric.init with gathers := [{ eid := 5, sunit := 0, tags := [9], since := 0, start := 0 }] } }
     (s.fabric.gathers.find? (fun g => g.eid = 5 && g.sunit = 0)).isSome = true) ∧
    (∀ o ∈ (sending kWrite).findOut 0 9, (sending kWrite).mayResend o = true ∧
      (let u := (sending kWrite).passTo (o.pkt.ts + w64 (sending kWrite).cto)
       u.discards 0 = false ∧ (u.quay 0).sends = [sjob true])) ∧
    (let w := { sjob true with id := 2, todo := [kPass] }
     let s := withQuay fleet 0 { (sending kWrite).quay 0 with sends := [sjob true, w] }
     (s.quay 0).sends.find? (fun w => w.gantry = fld (9 : W32).toNat 31 1 && !w.todo.isEmpty) = some w ∧ w.id ≠ (sjob true).id ∧
      (s.quay 0).sends.find? (fun v => v.id = w.id) = some w ∧ ((s.quay 0).outs 0).length ≤ 256) ∧
    (let o : OutPkt := { send := 0, pkt := kRsp, acks := 0, resends := 0, lastSent := 0, start := 0 }
     let s := { fleet with fabric := { fleet.fabric with copies := [o] } }
     s.findOut 0 9 = none ∧ s.findCopy 0 9 = some o ∧ s.mayResend o = true) ∧
    (∀ x ∈ [{ Port.init with held := [kPass] }, { Port.init with egress := [kPass] }, { Port.init with retry := [(0, kPass)] }],
      let s := withPort 15 x
      (s.port 15).oldest 9 = some kPass ∧ ((s.passTo (kPass.ts + w64 (s.cto + 1))).port 15).oldest 9 = some kPass) := by
  unfold State.delivers State.admits
  (repeat' apply And.intro) <;> first | decide +kernel | (intro _ h; cases h)

theorem witness_MailboxRegisters :
    getBits (mergeBits (State.reset.reg (kMb 0x10)) (writeForm (State.reset.maskMode 8) false 1024)) 0 16 ≤ sqSize 0 ∧
    sqSize 1 < getBits (mergeBits (State.reset.reg (kMb 0x18)) (writeForm (State.reset.maskMode 8) false 65)) 0 16 ∧
    State.reset.serve.cq = [] ∧ getBits (State.reset.reg (kMb 0)) 0 1 = 0 ∧
    getBits ((withRegs State.reset [(kMb 0, 1)]).reg (kMb 0)) 0 1 = 1 ∧ State.reset.noChart = true ∧ (harbour 4).noChart = false ∧
    getBits ((withRegs State.reset [(kMb 0x6C, 1)]).reg (kMb 0x6C)) 0 4 = 1 := by
  decide +kernel

/-- A mailbox entry: OPC, ID 7, BERTH, TAG, ADDR and ARG. -/
def entry (opc berth tag addr arg : Nat) : List Byte :=
  leBytes 1 opc ++ [0] ++ leBytes 2 7 ++ leBytes 2 berth ++ [0, 0] ++ leBytes 8 tag ++ leBytes 8 addr ++ leBytes 4 arg ++
  List.replicate 36 0
/-- A berth without containers. -/
def berth1 (st : BState) (slot : Option Nat) : Berth :=
  { (default : Berth) with st := st, tag := 77, tenant := 1, slot := slot }
/-- A serving manifest over quay 0 for `plainChart`. -/
def serveManifest : Manifest :=
  { chartId := 7, stepTides := 4, stepOffset := 0, resultTide := 0, resultNs := 0, nslot := 2, pfChunks := 1, pfTokens := 64,
    ngroup := 1, kmax := 4, stepTbl := 0, resultTbl := 64, ptMirror := w32 (2 * 2 ^ 22), pfTok := w32 (2 ^ 22), tmpl := 256,
    quantum := 1, lowWater := 0, parents := [], tnodes := [] }
/-- Yeweric serves a running chart of tenant 1 with an entry at the head of a ring. -/
def mail (ring : Nat) (e : List Byte) (bs : Tab Berth) : State :=
  let c := { plainChart with basins := [{ quays := [0], tenant := 1, elastic := false }] }
  { withRegs (underway false) [(kMb 0, 1), (kMb (sqHead ring - 4), 1), (qkey 0 0x40, 0x40000001)] with
    tide := { (underway false).tide with chart := some c },
    board := { Board.init with booted := true }, windows := Mem.write [] (sqBase ring) e,
    fabric := { Fabric.init with routes := [(5, { w0 := 2, w1 := 0, w2 := 0, w3 := 0 })] },
    serve := { Serve.init with berths := bs, manifest := some serveManifest } }
/-- The berth that a command of opcode o names, and the state with the command in front. -/
def mailed (o : Nat) : Berth := berth1 (if o = 4 then .parked else .ready) (if o = 2 then some 1 else none)
def mailBerth (o : Nat) : State := mail 0 (entry o 4095 0 0 0) [(4095, mailed o)]
/-- A SUBMIT descriptor: tenant 1, a prompt of one token, OUT_CAP, MAX_NEW and the sampling fields at their least. -/
def subDesc : List Byte :=
  leBytes 8 77 ++ leBytes 2 1 ++ [0, 0] ++ leBytes 4 1 ++ leBytes 8 0x1000 ++ leBytes 8 0x2000 ++ leBytes 4 1 ++ leBytes 4 1 ++
  leBytes 4 1 ++ leBytes 4 0 ++ leBytes 4 0x3F800000 ++ List.replicate 76 0

theorem witness_MailboxCommands :
    ((mail 0 (entry 0xA 0 0 0 0) []).takes 0 0xA (entry 0xA 0 0 0 0) ∧
      (mail 1 (entry 0xA 0 0 0 0) []).takes 1 0xA (entry 0xA 0 0 0 0)) ∧
    ((mailBerth 5).takes 0 5 (entry 5 4095 0 0 0) ∧ (mailBerth 6).takes 0 6 (entry 6 4095 0 0 0) ∧
      (mailBerth 2).takes 0 2 (entry 2 4095 0 0 0) ∧ (mailBerth 3).takes 0 3 (entry 3 4095 0 0 0) ∧
      (mailBerth 4).takes 0 4 (entry 4 4095 0 0 0)) ∧
    ((mail 1 (entry 7 0 0 5 0xF0001) []).takes 1 7 (entry 7 0 0 5 0xF0001) ∧
      ((mail 1 (entry 7 0 0 5 0xF0001) []).route (BitVec.ofNat 16 (eAddr (entry 7 0 0 5 0xF0001)))).kind = 2 ∧
      (mail 0 (entry 8 0 0 9 0xF0001) []).takes 0 8 (entry 8 0 0 9 0xF0001) ∧
      ((mail 0 (entry 8 0 0 9 0xF0001) []).route (BitVec.ofNat 16 (eAddr (entry 8 0 0 9 0xF0001)))).kind ≠ 2) ∧
    (mail 0 (entry 0xB 0 0 9 0) []).takes 0 0xB (entry 0xB 0 0 9 0) ∧
    (let s := mail 0 (entry 1 0 0 0x4000 0) []
     s.takes 0 1 (entry 1 0 0 0x4000 0) ∧ s.serve.voids = [] ∧ s.serve.manifest = some serveManifest ∧ s.chartRuns = true ∧
      descOk serveManifest subDesc = true ∧ s.servesTenant (leAt subDesc 8 2) = true ∧ 4 = 4 * leAt subDesc 12 4 ∧ s.freeIds ≠ []) ∧
    (mail 0 (entry 9 0 0 0x4000 0) []).takes 0 9 (entry 9 0 0 0x4000 0) ∧
    (let s := { mail 1 (entry 2 0xFFFF 77 0 0) [] with windows :=
       (Mem.write [] (sqBase 1) (entry 2 0xFFFF 77 0 0)).write (sqBase 0) (entry 1 0 0 0x4000 0) }
     let s := withRegs s [(kMb 0x10, 1)]
     findBerth (entry 2 0xFFFF 77 0 0) s = .error 0xD2 ∧ s.waitingTag [some subDesc] (eTag (entry 2 0xFFFF 77 0 0)) = some 0) ∧
    (let s := { mail 0 (entry 1 0 0 0x4000 0) [] with serve := { Serve.init with voids := [(0, 77)] } }
     s.mayTake 0 = true ∧ entry 1 0 0 0x4000 0 = s.sqEntry 0 (s.ringCount 0x14) ∧ eOpc (entry 1 0 0 0x4000 0) = 1 ∧
      s.voided (s.ringCount 0x14) = some 77 ∧ s.cqUsed + 1 < 1984) := by
  unfold State.takes; (repeat' apply And.intro) <;> decide +kernel

theorem witness_MailboxCommands_berth (o : Nat) (h : o = 2 ∨ o = 3 ∨ o = 4 ∨ o = 5 ∨ o = 6) :
    findBerth (entry o 4095 0 0 0) (mailBerth o) = .ok (4095, mailed o) ∧ (mailBerth o).berth 4095 = some (mailed o) ∧
    ((mailed o).st = if o = 4 then BState.parked else .ready) ∧ (mailed o).slot = (if o = 2 then some 1 else none) ∧
    (mailBerth o).serve.manifest.isSome = true ∧ (mailBerth o).chartRuns = true ∧ (mailBerth o).siloWritable = true := by
  rcases h with rfl | rfl | rfl | rfl | rfl <;> refine ⟨rfl, ?_, ?_, ?_, ?_, ?_, ?_⟩ <;> decide +kernel

/-- A state whose POOL slot has n extents. -/
def poolOf (n : Nat) : State :=
  { mailBerth 3 with silo := { Silo.init with slots :=
    [(0, { st := .pool, kind := 3, base := 0, len := n, len1k := 0, crc := 0 })] } }

theorem poolOf_poolFree (n : Nat) : (poolOf n).poolFree = List.range n := by
  simp [State.poolFree, State.poolSlot, poolOf, Silo.init]

/-- The POOL slot has room for the image of a berth without containers. -/
theorem witness_MailboxCommands_pool :
    let s := poolOf (ceilDiv (State.reset.imageBytes 0) extentBytes)
    s.chartRuns = true ∧ s.siloWritable = true ∧
    ceilDiv (s.imageBytes (mailed 3).pages.flatten.length) extentBytes ≤ s.poolFree.length ∧
    (let x := { mailed 3 with st := .decode, slot := some 0, cmd := some (7, 0) }
     let s := { s with serve := { s.serve with berths := [(4095, x)], step := 0 } }
     s.serve.rows = [] ∧ x.position ≤ 64 * x.nblk ∧ x.siloE = 0 ∧ s.yeweric = true ∧
      serveManifest.stepOf s.tideIdx.toNat = some (0, 0) ∧ s.serve.step ≠ 0 + 1) := by
  refine ⟨by decide +kernel, by decide +kernel, ?_, by decide +kernel⟩
  rw [poolOf_poolFree, List.length_range]
  exact Nat.le_refl _

/-- The bytes of a manifest that is accepted for the chart of `mail`. -/
def manifestBytes : List Byte :=
  leBytes 4 0x53455256 ++ leBytes 8 7 ++ leBytes 2 4 ++ leBytes 2 0 ++ leBytes 2 0 ++ leBytes 2 0 ++ leBytes 2 2 ++ leBytes 2 1 ++
  leBytes 2 64 ++ leBytes 2 1 ++ leBytes 4 4 ++ leBytes 4 0 ++ leBytes 4 64 ++ leBytes 4 (2 * 2 ^ 22) ++ leBytes 4 (2 ^ 22) ++
  leBytes 4 256 ++ leBytes 4 1 ++ leBytes 4 0 ++ List.replicate 1044 0

theorem witness_MailboxCommands_manifest :
    let s := mail 0 (entry 9 0 0 0x4000 0) []
    s.chartRuns = true ∧ s.manifestOk manifestBytes = true ∧ s.serve.former = none ∧ s.slotHeld = false := by
  decide +kernel
/-! #### Berths, Stillwater, power, the breakwater and the silo -/

/-- Yeweric serves the chart of `mail` with one berth. -/
def serving (x : Berth) : State := mail 0 [] [(4095, x)]

theorem witness_BerthsMove :
    (let s := serving (berth1 .ready none)
     let m := { serveManifest with stepTides := 4, resultTide := 0 }
     s.serve.manifest = some m ∧ s.tide.chart.isSome = true ∧ s.chartRuns = true ∧ s.yeweric = true ∧
      m.stepOf s.tideIdx.toNat = some (0, 0) ∧ m.resultTide ≤ 0 ∧ s.serve.step ≠ 0 + 1 ∧ (mail 0 [] []).serve.berths = [] ∧
      m.stepAt (s.tideIdx.toNat + 1) ≠ some (0 + 1)) ∧
    (let x := { berth1 .parking none with pages := [[cidOf 0 1]] }
     (serving x).berth 4095 = some x ∧ x.st = .parking ∧ (serving x).siloJoins x = true ∧
      x.containers.filter (fun c => (serving x).enabled (cidQuay c)) ≠ []) ∧
    (let x := { berth1 .unparking none with pages := [[]] }
     (serving x).berth 4095 = some x ∧ (serving x).serve.manifest = some serveManifest ∧ x.st = .unparking ∧ x.pages ≠ [] ∧
      (serving x).imageBad x.park = false ∧ (serving x).siloJoins x = true) ∧
    (∀ n ∈ [0, 1, 2], let x := { berth1 .decode (some 0) with position := 65 }
      let s := { withRegs (serving x) [(kMb 0x40, 1)] with serve := { (serving x).serve with mirLost := n } }
      s.berth 4095 = some x ∧ s.yeweric = true ∧ getBits (s.reg (kMb 0x40)) 0 1 = 1 ∧ s.serve.mirLost < 3 ∧
      64 * (0 + 1) < x.position) ∧
    (let x := { berth1 .queued none with adopting := some 3 }
     let s := withRegs (serving x) [(kMb 0x4C, 1)]
     s.serve.manifest = some serveManifest ∧ s.berth 4095 = some x ∧ x.adopting = some 3 ∧
      getBits (s.reg (kMb 0x4C)) 0 16 ≠ s.homeEid.toNat ∧ (takeMany x.tenant (min 0 3 * serveManifest.ngroup) s).isSome = true) := by
  decide +kernel

theorem witness_StillwaterChanges :
    (let v := mergeBits (State.reset.reg 0x80) (writeForm (State.reset.maskMode 0) false 1)
     getBits v 0 1 ≠ getBits (State.reset.reg 0x80) 0 1 ∧ State.reset.swMayChange = true ∧ (harbour 4).swMayChange = false) ∧
    getBits (mergeBits (State.reset.reg 0x80) (writeForm (State.reset.maskMode 0) false 0)) 0 1 =
      getBits (State.reset.reg 0x80) 0 1 ∧
    (let s := withRegs State.reset [(0x84, 2)]
     getBits (s.reg 0x84) 1 1 = 1 ∧ (s.rail 0).mv = (s.rail 0).target ∧ (s.rail 0).step = none) := by
  decide +kernel

/-- A module armed for the edge at 12,000 ns, in a stage of its sync. -/
def syncing (stage : SwsStage) : State :=
  { withRegs State.reset [(kTb 0x44, 2), (kTb 0x48, 12000)] with fabric := { Fabric.init with sws := stage, swsAt := 12000 } }
/-- The same with an edge that is near. -/
def closing : State :=
  { withRegs State.reset [(kTb 0x44, 2), (kTb 0x48, 2000)] with fabric := { Fabric.init with swsAt := 2000 } }

theorem witness_SyncArming :
    (∀ st ∈ [0, 6], let s := withRegs State.reset [(0x100004, st), (kTb 0x48, 10000)]
      s.chartState = st ∧ getBits (s.reg 0x84) 1 1 = 0 ∧ getBits (s.reg (kTb 0x44)) 1 1 = 0 ∧
      (s.pair (kTb 0x48)).toNat % 50 = 0 ∧ s.now.toNat + 10000 ≤ (s.pair (kTb 0x48)).toNat) ∧
    ((withRegs State.reset [(kTb 0x48, 10049)]).pair (kTb 0x48)).toNat % 50 ≠ 0 ∧
    ¬ ((withRegs State.reset [(kTb 0x48, 9950)]).now.toNat + 10000 ≤
      ((withRegs State.reset [(kTb 0x48, 9950)]).pair (kTb 0x48)).toNat) ∧
    (let s := syncing .off
     getBits (s.reg (kTb 0x44)) 1 1 = 1 ∧ s.fabric.swsAt = s.pair (kTb 0x48) ∧ s.fabric.sws = .off ∧ s.tbState ≠ 2 ∧
      s.now.toNat + 2000 < (s.pair (kTb 0x48)).toNat) ∧
    (getBits (closing.reg (kTb 0x44)) 1 1 = 1 ∧ closing.fabric.swsAt = closing.pair (kTb 0x48) ∧
      (closing.pair (kTb 0x48)).toNat ≤ closing.now.toNat + 2000) ∧
    (let s := withQuay (syncing .closed) 0 runner
     s.fabric.swsAt = s.pair (kTb 0x48) ∧ s.fabric.sws = .closed ∧ (s.passTo (s.pair (kTb 0x48) - 1000)).quiet = false) ∧
    ((syncing .busy).fabric.sws = .busy ∧ (syncing .busy).power.replan = false) := by
  decide +kernel

theorem witness_SyncArming_held : ∀ p, ((syncing .busy).port p).held = [] := fun _ => rfl

theorem witness_SlackWaterSync :
    (withRegs State.reset [(kTb 0x48, 10000)]).swsArmOk = true ∧ State.reset.swsArmOk = false ∧
    ((syncing .off).swsArmed = true ∧ (syncing .off).fabric.sws = .off ∧
      (syncing .off).now.toNat + 2000 < (syncing .off).fabric.swsAt.toNat ∧ (syncing .off).tbState ≠ 2) ∧
    closing.fabric.swsAt.toNat ≤ closing.now.toNat + 2000 ∧
    (withRegs (syncing .off) [(kTb 0xC, 2)]).tbState = 2 ∧
    (∀ st ∈ [SwsStage.closed, .quiet, .restarted, .fifos, .marked, .busy, .fixed],
      (syncing st).swsArmed = true ∧ (syncing st).fabric.sws = st) ∧
    (let s := portIn .up; (s.port 3).st = .up ∧ getBits (s.reg (kTb 0x44)) (16 + 3) 1 = 0) := by
  decide +kernel

theorem witness_SlackWaterSync_held (st : SwsStage) : ∀ p, ((syncing st).port p).held = [] := fun _ => rfl

/-- A module in a power state. -/
def powered (st : PwrState) : State := { State.reset with power := { Power.init with st := st } }

theorem witness_PowerCommands :
    (∀ st ∈ [PwrState.s3, .exiting, .a0, .a1, .s1, .s2, .entering, .trip], (powered st).power.st = st ∧
      (powered st).power.a1Next = none ∧ (powered st).power.replan = false ∧ (powered st).serve.berths = [] ∧
      (powered st).power.coolSince = none) ∧
    ({ powered .a0 with power := { Power.init with a1Next := some true } } : State).power.a1Next ≠ none ∧
    ({ powered .a1 with power := { Power.init with st := .a1, replan := true } } : State).power.replan = true ∧
    (let s := { powered .trip with c64 := [(kTbNow, 100000000)],
                                   power := { Power.init with st := .trip, coolSince := some 0 } }
     s.power.st = .trip ∧ s.mayLeaveTrip = true ∧ s.serve.berths = []) ∧
    (powered .a0).chartRuns = false ∧ (harbour 4).chartRuns = true ∧ (powered .a0).maySleep = true ∧ (harbour 4).maySleep = false := by
  decide +kernel

/-- A module that has made n steps of an entry into a sleep state, VCORE and VSRAM on their way from two voltages. -/
def fallingAsleep (st : PwrState) (n vcore vsram : Nat) : State :=
  { State.reset with power := { Power.init with
      st := .entering, target := st, entry := n,
      rails := [(0, { mv := vcore, target := 600, step := none }), (1, { mv := vsram, target := 650, step := none })] } }
/-- A module that has come some steps out of a sleep state. -/
def wakingUp (from' : PwrState) (n : Nat) : State :=
  { State.reset with power := { Power.init with st := .exiting, from' := from', groups := n } }
/-- A sleeping module with every wake source enabled, WAKE_AT at 5,000 ns. -/
def asleep (st : PwrState) : State := withRegs (powered st) [(kAon 8, 0xF00), (kAon 0x18, 5000)]

theorem witness_SleepWakeAndTrip :
    (∀ st ∈ [PwrState.s1, .s2, .s3], let s := fallingAsleep st 2 600 650
      s.power.st = .entering ∧ s.power.entry = 2 ∧ s.power.latched = none ∧ s.power.target = st ∧ s.railSettled 1 = true ∧
      (fallingAsleep st 2 600 700).railSettled 1 = false ∧ (fallingAsleep st 2 600 700).power.entry = 2 ∧
      (fallingAsleep st 1 605 700).railSettled 0 = false ∧ (fallingAsleep st 1 605 700).power.entry = 1) ∧
    (let s := { fallingAsleep .s1 1 600 650 with ports := [(15, { Port.init with st := .up })] }
     s.power.entry = 1 ∧ s.power.target = .s1 ∧ s.railSettled 0 = true ∧ (s.rail 1).mv = 650 ∧ s.power.latched = none ∧
      (s.port 15).st = .up) ∧
    (let x := berth1 .parking none
     let s := { fallingAsleep .s2 0 700 800 with serve := { Serve.init with berths := [(4095, x)] } }
     s.power.st = .entering ∧ s.power.entry = 0 ∧ s.power.target ≠ .s1 ∧ s.serve.berths = [(4095, x)] ∧ x.st = .parking) ∧
    (∀ st ∈ [PwrState.s1, .s2, .s3], (asleep st).power.st = st ∧ (asleep st).wakeEnabled 2 = true ∧ wakeAllowed st 2 = true ∧
      (asleep st).wakeEnabled 3 = true ∧ wakeAllowed st 3 = true ∧ ((asleep st).pin 7).fn = 5 ∧ ((asleep st).pin 7).next = none ∧
      (asleep st).wakeEnabled 4 = true ∧ (asleep st).pair (kAon 0x18) ≠ 0 ∧
      (asleep st).now.toNat ≤ ((asleep st).pair (kAon 0x18)).toNat) ∧
    (let s := { asleep .s1 with ports := [(15, { Port.init with st := .up, lpi := true })] }
     s.wakeEnabled 5 = true ∧ wakeAllowed .s1 5 = true ∧ (s.port 15).st = .up ∧ (s.port 15).lpi = true) ∧
    ((wakingUp .s1 0).power.st = .exiting ∧ (wakingUp .s1 0).power.groups = 0) ∧
    (∀ g ∈ [0, 7], (wakingUp .s2 (g + 1)).power.st = .exiting ∧ (wakingUp .s2 (g + 1)).power.groups = g + 1 ∧
      (wakingUp .s2 (g + 1)).railsUp = true) ∧
    (∀ st ∈ [PwrState.s1, .s2, .s3], (wakingUp st 9).power.st = .exiting ∧ (wakingUp st 9).power.groups = 9 ∧
      (wakingUp st 9).power.from' = st) ∧
    (let s := withQuay { harbour 4 with power := { Power.init with st := .a1 } } 0 { runner with hold := .tideNext }
     s.power.st = .a1 ∧ s.chartRuns = true ∧ s.enabled 0 = true ∧ (s.quay 0).st = .run ∧ (s.quay 0).hold = .tideNext ∧
      (s.quay 0).idleUnits = true ∧ (s.quay 0).sb = []) ∧
    State.reset.enabled 0 = true ∧ State.reset.enabled 143 = false := by
  decide +kernel

theorem witness_SleepWakeAndTrip_quiet : (∀ q, (State.reset.quay q).sb = []) ∧ State.reset.serve.berths = [] :=
  ⟨fun _ => rfl, rfl⟩

/-- VCORE is to move to another voltage, or is moving. -/
def railAt (r : Rail) (n : Nat) : State := { State.reset with power := { Power.init with rails := [(n, r)] } }

theorem witness_BreakwaterEvents :
    (∀ n ∈ [0, 2], let s := railAt { mv := 700, target := 706, step := none } n
      (s.rail n).step = none ∧ (s.rail n).mv ≠ (s.rail n).target ∧ getBits (s.reg (kBw 4)) 5 1 = 0 ∧ s.power.st ≠ .entering ∧
      s.railTurn n = true) ∧
    (let s := wakingUp .s1 1
     let s := { s with power := { s.power with rails := [(1, { mv := 650, target := 800, step := none })] } }
     s.railTurn 0 = false ∧ s.railTurn 1 = true ∧ s.power.st ≠ .entering) ∧
    (let s := fallingAsleep .s1 1 600 700
     let g := entryGoesOn s
     g.power.entry = 2 ∧ (g.rail 1).step = none ∧ (g.rail 1).mv ≠ (g.rail 1).target ∧ getBits (g.reg (kBw 4)) 5 1 = 0 ∧
      g.railTurn 1 = true) ∧
    true ∈ [false, false, true].take 3 ∧ true ∉ [false, false, false, true].take 3 ∧
    ((railAt { mv := 700, target := 706, step := some 706 } 0).rail 0).step = some 706 ∧
    (List.replicate 5 ((1 : W16), (2 : W16), (3 : BitVec 12))).length = 5 ∧
    (∀ v ∈ [699, 700, 1500, 1501], getBits (w32 v) 16 1 = 0 ∧ getBits (w32 v) 0 11 = v) ∧
    (underway true).stillwater = true ∧ (underway false).stillwater = false ∧ getBits (w32 (2 ^ 16 + 900)) 16 1 = 1 ∧
    (State.reset.power.stretch = false ∧ State.reset.stillwater = false ∧ 24 < 25 ∧ 25 ≤ 25) ∧
    ({ State.reset with power := { Power.init with stretch := true } } : State).power.stretch = true := by
  decide +kernel

theorem witness_BreakwaterEvents_cap (s : State) : ∃ t, exec (.capWrite (w32 900 &&& 0xFFFEFFFF)) s = .next t := ⟨_, rfl⟩

theorem witness_AgeingAndCalibration :
    (State.reset.power.st = .a0 ∧ State.reset.noChart = true ∧ State.reset.allStopped = true) ∧
    ¬ ((harbour 4).noChart = true) ∧
    (let s := { State.reset with power := { Power.init with replan := true } }
     s.power.replan = true ∧ s.siloWritable = true ∧ (withRegs s [(kSilo 0, 0x100)]).siloWritable = false) ∧
    (14 : BitVec 8).toNat < 15 ∧ State.reset.power.ageLogged = false ∧ 15 ≤ (15 : BitVec 8).toNat ∧
    State.reset.power.calCmd = none ∧ State.reset.calArmed = false ∧
    ({ State.reset with power := { Power.init with calKey := some 0 } } : State).calArmed = true ∧
    (∀ c ∈ [1, 2, 3], ({ State.reset with power := { Power.init with calCmd := some c } } : State).power.calCmd = some c) ∧
    ((portIn .up).port 3).st = .up ∧ (0 : W32) ≠ 0xCA1B := by
  decide +kernel

theorem witness_UnitsAreRetired :
    (State.reset.mayRetire 0 = true ∧ State.reset.qspare.getLsbD 0 = false ∧ State.reset.lowestSpare = some 136 ∧
      State.reset.serve.berths = []) ∧
    ({ State.reset with qspare := 0 } : State).lowestSpare = none ∧
    (State.reset.mayRetire 143 = false ∧ State.reset.qspare.getLsbD 143 = true) ∧
    (let s := { State.reset with qspare := 0 }; s.qen.getLsbD 143 = false ∧ s.qspare.getLsbD 143 = false ∧
      getBits (s.reg 0x274) 1 1 = 0) ∧
    ((withRegs State.reset [(0x274, 2)]).mayRetire 0 = false ∧ getBits ((withRegs State.reset [(0x274, 2)]).reg 0x274) 1 1 = 1) ∧
    State.reset.siloWritable = true ∧ (withRegs State.reset [(kSilo 0, 0x100)]).siloWritable = false ∧
    (List.range 144).any (fun q => portRouter 0 = q) = true := by
  decide +kernel

theorem witness_UnitsAreRetired_quiet : ∀ p, (State.reset.port p).retry = [] ∧ (State.reset.port p).egress = [] :=
  fun _ => ⟨rfl, rfl⟩

/-- The silo is READY or not, with SLOT 2 of a kind in SILO_ARG0 and LEN in SILO_ARG1, and a record in slot 2. -/
def silo (status kind len : Nat) (x : SiloSlot) : State :=
  { withRegs State.reset [(kSilo 0, status), (kSilo 8, 2 + kind * 256), (kSilo 0xC, len)] with
    silo := { Silo.init with slots := [(2, x)] } }
def slotIn (st : SiloState) : SiloSlot := { SiloSlot.init with st := st, len := 4 }

theorem witness_SiloCommands :
    (let s := silo 0 1 1 SiloSlot.init; getBits (s.reg (kSilo 0)) 0 1 = 0) ∧
    (let s := silo 3 1 1 SiloSlot.init; getBits (s.reg (kSilo 0)) 1 1 = 1) ∧
    (let s := silo 0x101 1 1 SiloSlot.init
     getBits (s.reg (kSilo 0)) 0 1 = 1 ∧ getBits (s.reg (kSilo 0)) 1 1 = 0 ∧ getBits (s.reg (kSilo 0)) 8 1 = 1) ∧
    (∀ kind ∈ [1, 4], ∀ len ∈ [1, 65520], let s := silo 1 kind len SiloSlot.init
      (getBits (s.reg (kSilo 0)) 0 1 = 1 ∧ getBits (s.reg (kSilo 0)) 1 1 = 0 ∧ getBits (s.reg (kSilo 0)) 8 1 = 0) ∧
      getBits (s.reg (kSilo 8)) 0 8 = 2 ∧ getBits (s.reg (kSilo 8)) 8 4 = kind ∧ (s.reg (kSilo 0xC)).toNat = len ∧
      (s.slotRec 2).st = .empty ∧ s.lowestRun len = some 0) ∧
    (let s := silo 1 3 1 SiloSlot.init; ∀ p ∈ s.silo.slots, p.2.st ≠ .pool ∧ (p.2.kind = 3 → p.2.st = .empty)) ∧
    ({ silo 1 1 1 SiloSlot.init with silo := { Silo.init with slots := [(1, { slotIn .opened with len := 65520 })] } } : State).lowestRun 1
      = none ∧
    (∀ st ∈ [SiloState.empty, .opened, .sealed, .pool, .erasing], ((silo 1 1 1 (slotIn st)).slotRec 2).st = st) ∧
    (1 * 1024 ≤ (slotIn .opened).size ∧ (slotIn .opened).size < 0xFFFF0000 * 1024) ∧
    ((silo 1 1 1 (slotIn .opened)).chartNames 2 = false ∧ (silo 1 1 1 (slotIn .pool)).poolUsed = false) ∧
    (let c := { plainChart with shards := [{ zero := false, slot := 2, keep := false, sofs := 0, dst := 0, len := 1 }] }
     ({ harbour 4 with tide := { Tide.init with chart := some c } } : State).chartNames 2 = true) ∧
    ({ silo 1 1 1 (slotIn .pool) with serve := { Serve.init with berths := [(0, berth1 .parked none)] } } : State).poolUsed = true ∧
    (∀ op ∈ [1, 2, 3, 4], ({ State.reset with silo := { Silo.init with cmd := some (op, 2, 0, 0) } } : State).silo.cmd =
      some (op, 2, 0, 0)) ∧
    (crc32c (State.reset.silo.mem.read 0 0) = 0 ∧ State.reset.badPage 0 0 = false ∧ crc32c (State.reset.silo.mem.read 0 0) ≠ 1) ∧
    getBits (State.reset.reg (kSilo 0x50)) 8 1 = 0 ∧ State.reset.power.st = .a0 ∧
    getBits ((withRegs State.reset [(kSilo 0x50, 0x100)]).reg (kSilo 0x50)) 8 1 = 1 ∧
    (let x := { berth1 .parking none with pages := [[5]], park := [0] }
     let s := { silo 1 3 1 (slotIn .pool) with
       power := { Power.init with st := .entering }, serve := { Serve.init with berths := [(4095, x)] } }
     s.power.st = .entering ∧ s.parkingAt (fld (w64 (slotIn .pool).addr).toNat 0 42) = some 4095 ∧ s.berth 4095 = some x) ∧
    ((9 : Byte).toNat < 10 ∧ (0 : Byte).toNat = 0 ∧ 10 ≤ (10 : Byte).toNat ∧ State.reset.siloLog.length < 16) := by
  decide +kernel

theorem witness_TrustOperations :
    (let s := { State.reset with silo := { Silo.init with trustArm := some 0 },
                                 fuses := { Fuses.init with ownerHash := [(3, [])] } }
     s.trustOk 3 0 3 = true ∧ s.trustOk 3 0 0 = false ∧ s.trustOk 4 0 0 = false) ∧
    State.reset.silo.badPages = [] ∧ State.reset.siloWritable = true ∧
    (withRegs State.reset [(kSilo 0, 0x100)]).siloWritable = false ∧
    (∀ op ∈ [1, 2, 3, 4], ({ State.reset with silo := { Silo.init with trustCmd := some (op, 2, 3) } } : State).silo.trustCmd =
      some (op, 2, 3)) ∧
    (0 : W32) ≠ 0x7A57 ∧ getBits (writeForm (State.reset.maskMode 0) false 1).2 0 2 ≠ 0 ∧
    0x310 ∈ ({ State.reset with locked := [0x310] } : State).locked ∧ 0x310 ∉ State.reset.locked ∧
    (∀ v ∈ [0, 2], let u := getBits (mergeBits (w32 State.reset.debugLevel) (writeForm (State.reset.maskMode 0) false (w32 v))) 0 2
      u ≠ 3 ∧ State.reset.fuses.debugFloor ≤ u) ∧
    getBits (mergeBits (w32 State.reset.debugLevel) (writeForm (State.reset.maskMode 0) false 3)) 0 2 = 3 ∧
    (let s := { withRegs State.reset [(0x310, 1)] with
                locked := [0x310], board := { Board.init with pins := [(2, { fn := 4, next := none, out := false })] } }
     2 < 8 ∧ (s.pin 2).code = 4 ∧ 1 ≤ s.debugLevel ∧ s.board.tapDenied = false) ∧ State.reset.debugLevel = 0 := by
  decide +kernel
/-! #### Registers, BAR2, the DMA engine, the board and the whole module -/

theorem witness_RegisterAccesses :
    (∀ rq ∈ [Req.host, .pilot], State.reset.place rq (kSilo 0xC) = .reg .silo 0xC 0) ∧
    State.reset.place .smbus 0x1E00004 = .reg .aon 4 0 ∧ specAt .aon 4 ≠ none ∧ storesPlainly .aon 4 = true ∧
    kSilo 0xC % 4 = 0 ∧ specAt .silo 0xC ≠ none ∧ storesPlainly .silo 0xC = true ∧
    ((specAt .silo 0xC).all (fun r => r.rw &&& r.w1c = 0) = true) ∧
    (∀ w ∈ [1, 2, 3], State.reset.place .host (windowAddr (kSilo 0xC) w) = .reg .silo 0xC w) ∧
    (latchedLo (keyOf .glob 8) = true ∧ latchedLo 0xC = false ∧ latchedLo (0xC - 4) = true ∧ keyOf .glob (8 + 4) = 8 + 4 ∧
      8 % 8 = 0 ∧ State.reset.place .host 8 = .reg .glob 8 0 ∧ State.reset.place .pilot 0xC = .reg .glob 0xC 0) ∧
    (latchedLo 0 = false ∧ latchedLo 4 = false ∧ latchedLo (4 - 4) = false ∧ State.reset.place .host 4 = .reg .glob 4 0) ∧
    (∀ a ∈ [0x1810000, 0x183FFFC], inMail a = true ∧ a < 0x1840000 ∧ a % 4 = 0) ∧
    ((List.replicate 512 (none : Option Byte)).length ≤ 512 ∧ State.reset.fwFault = false) ∧
    (State.reset.hostPlace 0xFFFFFC = .nowhere ∧ inMail 0xFFFFFC = false ∧ inCal 0xFFFFFC = false ∧ 0xFFFFFC % 4 = 0 ∧
      State.reset.place .smbus 0x400 = .nowhere) := by
  decide +kernel

theorem witness_ModesMasksAndBar2 :
    (State.reset.fwFault = false ∧ State.reset.noChart = true ∧ (harbour 4).noChart = false ∧ (harbour 4).fwFault = false) ∧
    (blockModeOk (getBits (mergeBits (State.reset.reg 0x400) (writeForm (State.reset.maskMode 0) false 0x50)) 0 11) = true ∧
      blockModeOk (getBits (mergeBits (State.reset.reg 0x400) (writeForm (State.reset.maskMode 0) false 0)) 0 11) = false) ∧
    (let s := withRegs State.reset [(kNoteStat 0, 1)]
     getBits (State.reset.reg (kNoteStat 0)) 0 16 = 0 ∧ getBits (s.reg (kNoteStat 0)) 0 16 = 2 ^ 0 ∧
      getBits (s.reg (kNoteMask 0)) 0 1 = 1 ∧
      getBits (mergeBits (s.reg (kNoteMask 0)) (writeForm (s.maskMode 0) false 0)) 0 1 = 0 ∧
      getBits (s.reg (0x80000 + 16 * getBits (s.reg (kNoteVec 0)) 0 11 + 12)) 0 1 = 1 ∧
      getBits ((withRegs s [(0x8000C, 0)]).reg (0x80000 + 16 * getBits (s.reg (kNoteVec 0)) 0 11 + 12)) 0 1 = 0) ∧
    ({ State.reset with board := { Board.init with msixOn := true } } : State).board.msixOn = true ∧
    (∀ a ∈ [0, 0x0BFFF000, 0x0C000000, 0x0F05F000, 135 * 2 ^ 28], State.reset.bar2Check a 4096 4096 = none ∧
      (State.reset.bar2Place a 4096).isSome = true ∧ State.reset.bar2Check a 512 512 = none ∧
      (State.reset.bar2Place a 512).isSome = true) ∧
    (∀ q ∈ [0, 135], State.reset.routable hostRouter q = true ∧ State.reset.bar2Place (q * 2 ^ 28) 4 = some (stackAddr q 2 0)) ∧
    (let s := { State.reset with rbad := 1 }
     s.routable hostRouter (saQuay (stackAddr 0 2 0)) = false ∧ s.bar2Check 0 4 4096 = none ∧ s.bar2Check 0 4 512 = none ∧
      s.bar2Place 0 4 = some (stackAddr 0 2 0)) ∧
    (let p := stackAddr 0 0 0
     saSpace p = 0 ∧ saQuay p = 0 ∧ State.reset.fabric.adaptMesh = false ∧ (State.reset.quay 0).st ≠ .scrub ∧
      ((withQuay State.reset 0 { Quay.init with st := .scrub }).quay (saQuay p)).st = .scrub) ∧
    State.reset.stack.ecc = [] ∧ State.reset.bar2Check 0 4097 4096 = some 0xC1 ∧ State.reset.bar2Check 0 513 512 = some 0xC1 ∧
    State.reset.bar2Check 0x0BFFFFFF 2 4096 = some 0xC0 ∧ State.reset.bar2Check 0x0F060000 1 512 = some 0xC0 := by
  decide +kernel

/-- Channel c with its EN, STATUS, TAIL and HEAD, and what it runs. -/
def dmaIn (c en status tail head : Nat) (x : Chan) : State :=
  { withRegs State.reset [(dkey c 0, en), (dkey c 4, status), (dkey c 8, 0x1000), (dkey c 0x10, 4), (dkey c 0x14, tail),
      (dkey c 0x18, head)] with chans := [(c, x)] }

theorem witness_DmaControl :
    (12 ≤ 15 ∧ 15 < 16) ∧
    (∀ st ∈ [0, 1, 2, 3], (dmaIn 11 1 st 1 0 Chan.init).dmaState 11 = st) ∧
    ((dmaIn 11 1 1 1 0 { Chan.init with xfer := some (false, 0) }).dmaState 11 ≠ 2 ∧
      ((dmaIn 11 1 1 1 0 { Chan.init with xfer := some (false, 0) }).chan 11).xfer ≠ none) ∧
    ((dmaIn 11 1 1 1 0 Chan.init).dmaState 11 ≠ 2 ∧ ((dmaIn 11 1 1 1 0 Chan.init).chan 11).xfer = none) ∧
    (let s := dmaIn 11 1 1 0 0 Chan.init
     s.ringEntries 11 = 16 ∧
      getBits (mergeBits (s.reg (dkey 11 0x14)) (writeForm (s.maskMode 0) false 16)) 0 16 = 16 ∧ (16 + 65536 - s.dmaHead 11) % 65536 ≤ 16 ∧
      getBits (mergeBits (s.reg (dkey 11 0x14)) (writeForm (s.maskMode 0) false 17)) 0 16 = 17 ∧
      s.ringEntries 11 < (17 + 65536 - s.dmaHead 11) % 65536) := by
  decide +kernel

/-- A descriptor of 64 bytes. -/
def descr (ty flags tgt len haddr taddr : Nat) : List Byte :=
  [w8 ty, w8 flags, w8 tgt, 0] ++ leBytes 4 len ++ leBytes 8 haddr ++ leBytes 8 taddr ++ List.replicate 40 0
where w8 (n : Nat) : Byte := BitVec.ofNat 8 n
/-- Channel 3 at a level, running a chain that its ring called. -/
def dmaAt (level : Nat) (stack : List W64) : State :=
  dmaIn 3 1 (1 + level * 16) 1 0
    { Chan.init with busy := true, ran := 1, stack := stack, calls := stack.map (fun _ => (false, 0)), next := 0x2000 }

theorem witness_DmaDescriptors :
    (State.reset.dmaReady 3 = false ∧ (dmaIn 3 1 1 1 0 Chan.init).dmaReady 3 = true ∧ (dmaAt 1 [0x1040]).dmaReady 3 = true) ∧
    ((dmaAt 1 [0x1040]).dmaLevel 3 = 1 ∧ (dmaAt 0 []).dmaLevel 3 = 0 ∧ ((dmaAt 1 []).chan 3).ran < 65536) ∧
    (dType (descr 1 0 0 0 0 0) = 1 ∧ dCheck (descr 1 0 0 0 0 0) 0 = some 0xC5 ∧ dCheck (descr 5 0 0 0 0 0) 0 = some 0xC5 ∧
      dType (descr 3 0 0 0 0 0) = 3 ∧ dCheck (descr 3 0 0 0 0 0) 0 = some 0xC5 ∧
      dCheck (descr 2 0 0 0 0 0) 4 = some 0xC4 ∧ dCheck (descr 4 0 0 0 64 0) 1 = some 0xC5) ∧
    (dCheck (descr 1 0 0 64 0 0) 0 = none ∧ (dmaAt 0 []).dmaTarget (descr 1 0 0 64 0 0) = none ∧
      (dmaAt 0 []).dmaTarget (descr 1 0 0 64 0 (2 ^ 38 - 64)) = some 0xC6) ∧
    (dTgt (descr 1 0 0 64 0 0) = 0 ∧ dOut (descr 1 0 0 64 0 0) = false ∧ dLen (descr 1 0 0 64 0 0) ≤ (List.replicate 64 (1 : Byte)).length ∧
      (dmaAt 0 []).stack.ecc = []) ∧
    (dTgt (descr 1 0 1 64 0 0) = 1 ∧ dCheck (descr 1 0 1 64 0 0) 0 = none ∧ (dmaAt 0 []).dmaTarget (descr 1 0 1 64 0 0) = none ∧
      ((dmaAt 0 []).quay 0).st.isStopped = true) ∧
    (dTgt (descr 1 0 2 64 0 0) = 2 ∧ dCheck (descr 1 0 2 64 0 0) 0 = none ∧ (dmaAt 0 []).dmaTarget (descr 1 0 2 64 0 0) = none ∧
      (dmaAt 0 []).bufBusy false = false) ∧
    (let s := { withRegs (dmaAt 0 []) [(kSilo 0, 1)] with silo := { Silo.init with slots := [(0, slotIn .opened)] } }
     dTgt (descr 1 0 3 4096 0 0) = 3 ∧ dCheck (descr 1 0 3 4096 0 0) 0 = none ∧ s.dmaTarget (descr 1 0 3 4096 0 0) = none ∧
      dOut (descr 1 1 3 4096 0 0) = true ∧ dCheck (descr 1 1 3 4096 0 0) 0 = none ∧ s.dmaTarget (descr 1 1 3 4096 0 0) = none ∧
      s.badPage (s.dmaPlace (descr 1 1 3 4096 0 0)) (dLen (descr 1 1 3 4096 0 0)) = false) ∧
    (dCheck (descr 1 1 0 64 0 0) 0 = none ∧ dOut (descr 1 1 0 64 0 0) = true ∧ (dmaAt 0 []).dmaTarget (descr 1 1 0 64 0 0) = none ∧
      dCheck (descr 1 1 2 64 0 0) 0 = none ∧ (dmaAt 0 []).dmaTarget (descr 1 1 2 64 0 0) = none) ∧
    (dCheck (descr 2 0 0 0 0x4000 0) 0 = none ∧ dCheck (descr 3 0 0 0 0x4000 0) 1 = none ∧ dCheck (descr 4 0 0 0 0 0) 1 = none ∧
      dIrq (descr 4 0 0 0 0 0) = false) ∧
    (((dmaAt 1 [0x1040]).chan 3).stack = 0x1040 :: [] ∧ ((dmaAt 1 [0x1040]).chan 3).calls = (false, 0) :: []) ∧
    (∀ st ∈ [1, 3], ((dmaIn 3 1 st 1 0 { Chan.init with busy := true, xfer := some (false, 0) }).chan 3).xfer = some (false, 0) ∧
      (dmaIn 3 1 st 1 0 { Chan.init with busy := true, xfer := some (false, 0) }).dmaState 3 = st) ∧
    (dmaIn 3 1 (1 + 16) 1 0 Chan.init).dmaLevel 3 ≠ 0 := by
  decide +kernel

theorem witness_DmaDescriptors_ways :
    ((dmaAt 0 []).fabric.adaptMesh = false ∧ dmaRouter (descr 1 0 0 64 0 0) = some 0 ∧
      (dmaAt 0 []).routable hostRouter 0 = true ∧ (dmaAt 0 []).routable hostRouter siloRouter = true ∧
      ({ dmaAt 0 [] with rbad := 1 } : State).routable hostRouter 0 = false ∧
      ({ dmaAt 0 [] with rbad := 1 } : State).dmaTarget (descr 1 0 0 64 0 0) = none) ∧
    (let s := withQuay (dmaAt 0 []) 0 { Quay.init with st := .scrub }
     let d := descr 1 0 0 64 0 0
     dTgt d = 0 ∧ saSpace (s.dmaPlace d) = 0 ∧ (s.quay (saQuay (s.dmaPlace d))).st = .scrub ∧ s.dmaTarget d = none ∧
      s.stack.ecc = [] ∧ saQuay (s.dmaPlace d) = 0) ∧
    (let s := withQuay (dmaAt 0 []) 0 { Quay.init with st := .run }
     (s.quay 0).st.isStopped = false ∧ s.dmaTarget (descr 1 0 1 64 0 0) = none) ∧
    ({ harbour 4 with tide := { Tide.init with sub := some (sub1 false) } } : State).bufBusy false = true ∧
    Chan.init.lost = false ∧ State.reset.fabric.sws = .off ∧ (syncing .closed).fabric.sws ≠ .off ∧
    ({ Chan.init with lost := true } : Chan).lost = true := by
  decide +kernel

def firmware (ok : Bool) (v : Nat) : Firmware := { version := BitVec.ofNat 32 v, svn := 0, ok := ok }
def boot (a b : Firmware) : State :=
  { State.reset with board := { Board.init with inReset := true, pwrGood := true, perst := false },
                     silo := { Silo.init with fwA := a, fwB := b } }

theorem witness_PowerAndResets :
    (({ State.reset with board := { Board.init with pwrEn := true } } : State).board.pwrEn = true ∧
      ({ State.reset with board := { Board.init with pwrEn := false } } : State).board.pwrEn = false) ∧
    ((powered .s3).perstIgnored = true ∧ (powered .a0).perstIgnored = false ∧
      ({ State.reset with board := { Board.init with pwrGood := false } } : State).board.pwrGood = false ∧
      ({ State.reset with board := { Board.init with pwrGood := true, perst := false } } : State).board.perst = false) ∧
    ((6 : BitVec 4).toNat = 6 ∧ (5 : BitVec 4).toNat < 6 ∧ (16 : BitVec 5).toNat = 16 ∧ (8 : BitVec 5).toNat < 16) ∧
    (∀ a ∈ [false, true], ∀ b ∈ [false, true], let s := boot (firmware a 1) (firmware b 2)
      s.board.inReset = true ∧ s.board.perst = false ∧ s.board.pwrGood = true ∧ s.mayRun s.silo.fwA = a ∧ s.mayRun s.silo.fwB = b) := by
  decide +kernel

/-- R351: quay 0 is unusable, and the lowest-numbered SPARE quay stands in for it. -/
theorem test_boot_spare_stands_in :
    bootMap 1 (lowBits 136) (lowBits 144 ^^^ lowBits 136) = (lowBits 137 ^^^ 1, lowBits 144 ^^^ lowBits 137) := by
  decide +kernel

theorem witness_PowerAndResets_idle : ∀ c, c < 16 → (State.reset.chan c).moving = none := fun _ _ => rfl

def withPin (i : Nat) (x : Pin) : State := { State.reset with board := { Board.init with pins := [(i, x)] } }

theorem witness_SmbusAndPins :
    (State.reset.place .smbus (smbAddr 8) = .reg .aon 8 0 ∧ latchedLo (keyOf .aon 8) = false ∧ latchedLo (keyOf .aon 8 - 4) = false) ∧
    (State.reset.place .smbus (smbAddr 4 - smbAddr 4 % 4) = .reg .aon 4 0 ∧ specAt .aon 4 ≠ none ∧ storesPlainly .aon 4 = true) ∧
    (pinAllows 7 5 = true ∧ pinAllows 0 7 = false ∧ (8 : Byte).toNat = 8) ∧
    ((withPin 7 { fn := 2, next := none, out := true }).pin 7 = { fn := 2, next := none, out := true } ∧
      (withPin 7 { fn := 2, next := none, out := true }).pinActive 7 = true ∧
      (withPin 7 { fn := 2, next := none, out := true }).pinActive 0 = true) ∧
    (((withPin 7 { fn := 0, next := some (5, 40), out := false }).pin 7).next = some (5, 40) ∧
      ((withPin 7 { fn := 7, next := none, out := false }).pin 7).fn = 7 ∧ (withPin 7 { fn := 7, next := none, out := false }).pinActive 7 = true ∧
      (withPin 7 { fn := 7, next := some (2, 40), out := false }).pinActive 7 = false) := by
  decide +kernel

theorem witness_NotificationsAndTraces :
    (let s := { withRegs State.reset [(kNoteMask 0, 0), (0x8000C, 0)] with board := { Board.init with msixOn := true } }
     getBits (s.reg (kNoteMask (0 / 16))) (0 % 16) 1 = 0 ∧ getBits (s.reg (kNoteStat (0 / 16))) (0 % 16) 1 = 0 ∧ s.board.msixOn = true ∧
      getBits (s.reg (0x80000 + 16 * getBits (s.reg (kNoteVec 0)) 0 11 + 12)) 0 1 = 0) ∧
    getBits (State.reset.reg (kNoteMask (255 / 16))) (255 % 16) 1 = 1 ∧
    getBits (State.reset.reg (kTrace 0)) 0 1 = 0 ∧
    (let s := withRegs State.reset [(kTrace 0, 1 + 2 ^ 31), (kTrace 4, 4)]
     getBits (s.reg (kTrace 0)) 0 1 = 1 ∧ getBits (s.reg (kTrace 0)) (8 + 23) 1 = 1 ∧ s.traceFull = false ∧
      (withRegs s [(kTrace 5, 16)]).traceFull = true) := by
  decide +kernel

theorem witness_FirstErrorIsCaptured :
    getBits (State.reset.reg 0x404) 0 1 = 0 ∧ getBits ((withRegs State.reset [(0x404, 1)]).reg 0x404) 0 1 = 1 ∧
    0xC0 ∈ [0xC0, 0xC1, 0xC2, 0xC8, 0xC9, 0xCA] ∧ Req.host ≠ .smbus ∧ Req.pilot ≠ .smbus := by
  decide +kernel

theorem witness_StepRunsFrontCommand :
    ({ State.reset with pending := [.smbusWake, .wlogPop] } : State).pending = .smbusWake :: [.wlogPop] ∧ State.reset.pending = [] ∧
    State.reset.time.loadAt = none ∧ State.reset.shadowed = false ∧
    ({ powered .s2 with time := { Time.init with shadow := 9 } } : State).shadowed = true ∧ (State.reset.pass 1).linksUp = [] := by
  decide +kernel

theorem witness_StepKeepsMemories : State.reset.memOk = true ∧ ∃ t, step { State.reset with pending := [.wlogPop] } = .next t :=
  ⟨by decide +kernel, _, rfl⟩

theorem witness_StepKeepsLogsAndBatches : State.reset.logsOk = true ∧ State.reset.batchesOk = true ∧
    ∃ t, step { State.reset with pending := [.wlogPop] } = .next t :=
  ⟨by decide +kernel, by decide +kernel, _, rfl⟩

theorem witness_ProductsArePlaced : ((1 : Nat) < 4) ∧ ((Val.inf true : Val) = .nan ∨ Val.nan = .nan ∨
    ∃ g, (Val.inf true : Val) = .inf g ∨ Val.nan = .inf g) := by
  exact ⟨by decide, .inr (.inl rfl)⟩

theorem witness_AccumulationIsOrderFree :
    [Val.fin false 1 0, Val.fin true 3 2].Perm [Val.fin true 3 2, Val.fin false 1 0] ∧
    -(2 ^ 127) ≤ ([] : List Int).sum ∧ ([] : List Int).sum < 2 ^ 127 ∧ ([] : List Int).length ≤ 32768 :=
  ⟨.swap .., by decide, by decide, by decide⟩

/-! ### Ill-formed commands: a term for each check, which the check refuses -/

theorem smoke_quay : (Instr.nop 144).wf = false ∧ (Instr.nop 143).wf = true := by decide
theorem smoke_gantry : (Instr.movDone 0 2).wf = false ∧ (Instr.movDone 144 0).wf = false := by decide
theorem smoke_crane : (Instr.mmaDone 0 4).wf = false ∧ (Instr.mmaDone 0 3).wf = true := by decide
theorem smoke_port : (Instr.retrain 16).wf = false ∧ (Instr.retrain 15).wf = true := by decide
theorem smoke_ring : (Instr.park 2).wf = false ∧ (Instr.park 1).wf = true := by decide
theorem smoke_berth : (Instr.parkVerified ⟨4096, []⟩).wf = false ∧ (Instr.parkVerified ⟨4095, [1]⟩).wf = true := by decide
theorem smoke_channel : (Instr.dmaAbort 16).wf = false ∧ (Instr.dmaAbort 15).wf = true := by decide
theorem smoke_rail : (Instr.avsTmo 3).wf = false ∧ (Instr.avsTmo 2).wf = true := by decide
theorem smoke_pin : (Instr.pinWake 8).wf = false ∧ (Instr.pinWake 7).wf = true := by decide
theorem smoke_write : (Instr.regWrite .host 0 []).wf = false ∧ (Instr.regWrite .host (2 ^ 26) [some 0]).wf = false ∧
    (Instr.regWrite .host 0 [some 0]).wf = true := by decide
theorem smoke_read : (Instr.loRead .host 0 4097).wf = false ∧ (Instr.loRead .host (2 ^ 26) 4).wf = false := by decide
theorem smoke_flit : (Instr.flitRx 0 [0] 0 0).wf = false := by decide
theorem smoke_record : (Instr.descEnd 0 (some [0])).wf = false ∧ (Instr.descEnd 0 none).wf = true := by decide
theorem smoke_ingress : (Instr.packetForward (.port 16) kWrite).wf = false := by decide
theorem smoke_param : (Instr.paramWrite .host 0 64 false 0).wf = false := by decide
theorem smoke_slot : (Instr.refLate 0 1536).wf = false ∧ (Instr.zeroContainerDone 0 65536).wf = false := by decide
theorem smoke_window : (Instr.refreshWindow 4).wf = false := by decide
theorem smoke_unit : (Instr.completionTimeout 512 0).wf = false ∧ (Instr.e2eResend 512 0).wf = false := by decide
theorem smoke_quench : (Instr.quenchRegWrite 4 0).wf = false := by decide
theorem smoke_group : (Instr.quayGroupPowerGood 8).wf = false := by decide
theorem smoke_router : (Instr.retireRouter 144).wf = false := by decide
theorem smoke_bar2 : (Instr.bar2Read (2 ^ 36) 1).wf = false ∧ (Instr.bar2Read 0 4097).wf = false ∧
    (Instr.bar2Write 0 (List.replicate 513 none)).wf = false := by decide +kernel
theorem smoke_window_address : (Instr.aliasSet .host (2 ^ 26) 0).wf = false ∧ (Instr.twoDwRead .host (2 ^ 26)).wf = false := by decide
theorem smoke_mask : (Instr.noteMaskWrite 16 0).wf = false := by decide
/-- The table gives no row bits. -/
theorem smoke_word : decodeTableWord 32 0 = none ∧ State.reset.withFetchWord 32 0 = State.reset := ⟨rfl, rfl⟩

/-! ### Tests: expected values from the worked examples and tables of spec/ -/

/-- The E4M3 dot product of spec/02_arithmetic.md. -/
def dotTerms : List Val :=
  [mulVal (fE4M3.decode 0x38) (fE4M3.decode 0x40), mulVal (fE4M3.decode 0x4C) (fE4M3.decode 0x3A),
   mulVal (fE4M3.decode 0xB4) (fE4M3.decode 0x44), mulVal (fE4M3.decode 0x01) (fE4M3.decode 0x08)]
def dot (a : Int) (l : List Val) : AccElem := l.foldl (fun e p => e.addProduct a p) AccElem.init
def unity : Val := .fin false 1 0

/-- Anchor 2: the sum, with no flag, and its FP32 and BF16 conversions. -/
theorem test_dot_anchor2 : dot 2 dotTerms = { AccElem.init with a := 0x00000001D00080000000000000000000 } ∧
    (fFP32.convert .rne false ((dot 2 dotTerms).value 2 unity unity unity)).1 = 0x40E80040 ∧
    (fBF16.convert .rne false ((dot 2 dotTerms).value 2 unity unity unity)).1 = 0x40E8 := by decide +kernel
/-- Anchor 82: the smallest product is half a unit, rounds to even and sets INX. -/
theorem test_dot_anchor82 : dot 82 dotTerms = { AccElem.init with a := 0x1D000, inx := true } ∧
    (fFP32.convert .rne false ((dot 82 dotTerms).value 82 unity unity unity)).1 = 0x40E80000 := by decide +kernel
/-- Anchor −20: three products pass the limit and set OVF; the output is NaN. -/
theorem test_dot_anchor_minus20 : dot (-20) dotTerms = { AccElem.init with a := 0x00000020000000000000000000000000, ovf := true } ∧
    (fBF16.convert .rne false ((dot (-20) dotTerms).value (-20) unity unity unity)).1 = 0x7FC0 := by decide +kernel
/-- Two modules' partials add to the single-module sum. -/
theorem test_exact_reduce : (dot 2 (dotTerms.take 2)).a = 0x00000002600000000000000000000000 ∧
    (dot 2 (dotTerms.drop 2)).a = 0xFFFFFFFF700080000000000000000000 ∧
    (dot 2 (dotTerms.take 2)).addElem (dot 2 (dotTerms.drop 2)) = dot 2 dotTerms := by decide +kernel
/-- A Q4B16 block with scale code 0x70 and a channel scale of 0.5. -/
theorem test_q4b16 :
    let p := [mulVal (mulVal (fE2M1.decode 1) (ue5m3 0x70)) (fE4M3.decode 0x40),
              mulVal (mulVal (fE2M1.decode 2) (ue5m3 0x70)) (fE4M3.decode 0x44)]
    (dot 2 p).a = 0x00000000800000000000000000000000 ∧
    (fBF16.convert .rne false ((dot 2 p).value 2 unity unity (fFP32.decode 0x3F000000))).1 = 0x3F80 := by decide +kernel
/-- −2.5 as INT8 (R42). -/
theorem test_int8_rounding : (convInt8 .rne true 5 (-1)).1 = 0xFE ∧ (convInt8 .rtz true 5 (-1)).1 = 0xFE ∧
    (convInt8 .odd true 5 (-1)).1 = 0xFD := by decide +kernel

/-- What a command leaves. -/
def after (i : Instr) (s : State) : State := out' (exec i s)

theorem test_pset : (after (.pset 0) (prog wPset)).reg (kParam 0 5) = 77 := by decide +kernel
theorem test_padd_wraps : (after (.padd 0) (withRegs (prog wPadd) [(kParam 0 6, 3)])).reg (kParam 0 5) = 2 := by decide +kernel

/-- The MMA of the example at R145, on quay 0 with two FULL slots and P5. -/
def wExample : W128 := 0x00001000000000010040002830001520
def mExample (w : W128) (p5 : Nat) : State :=
  after (.mmaOw 0) (withRegs (progOn { runner with slots := [(0, .full), (1, .full)] } w) [(kParam 0 5, p5)])
theorem test_mma_encoding : leBytes 16 wExample.toNat = [0x20, 0x15, 0, 0x30, 0x28, 0, 0x40, 0, 1, 0, 0, 0, 0, 0x10, 0, 0] ∧
    (mmaJob (((mExample wExample 2).quay 0)) .ow wExample).anchor = 2 := by decide +kernel
/-- P5 = 0x1400 leaves the apron (MEM_BOUNDS), P5 = 0x1C00 the field, and AFMT 0xA the combinations (ILLEGAL_FIELD). -/
theorem test_mma_faults : (mExample wExample 0x1400).view (.quay 0) 0x20 = 0x7405 ∧
    (mExample wExample 0x1C00).view (.quay 0) 0x20 = 0x1205 ∧
    (mExample (wExample ||| (0xA <<< 38)) 0).view (.quay 0) 0x20 = 0x1205 := by decide +kernel

/-- The tree mask of five nodes of spec/04_vector_engine.md. -/
def stageOf (op sa sb cidx aux : Nat) : List Byte :=
  leBytes 8 (op + sa * 2 ^ 8 + sb * 2 ^ 12 + 15 * 2 ^ 16 + cidx * 2 ^ 20 + aux * 2 ^ 40)
def mTree : State :=
  [(0x400, tensor 0x2000 9 [5, 5] [1, 64]), (0x1000, [0xFF, 0, 0, 1, 1]),
    (0, leBytes 2 0xFFFF ++ leBytes 2 0xFFFF ++ leBytes 2 0xFFFF ++ leBytes 2 32 ++ leBytes 2 0xFFFF ++ [2]),
    (32, stageOf 0x3A 0xB 15 1 0 ++ stageOf 0x39 0 0xB 0 (4 * 2 ^ 13 + 0x40))].foldl (fun s p => withMem s p.1 p.2)
    (prog (wd [(0, 0x30)]))
theorem test_tree_mask : (List.range 5).map (fun i => (after (.vch 0) mTree).stack.mem.read (0x2000 + 64 * i) 5) =
    [[1, 0, 0, 0, 0], [1, 1, 0, 0, 0], [1, 0, 1, 0, 0], [1, 1, 0, 1, 0], [1, 1, 0, 0, 1]] := by decide +kernel

/-- The expert routing of spec/04_vector_engine.md, with rows of one element. -/
def mRoute : State :=
  [(0x400, tensor 0x4000 1 [1, 2, 4] [2, 0, 64]), (0x420, tensor 0x1800 9 [1, 2, 4] [1, 1, 2]),
    (0x440, tensor 0x8000 1 [1, 8] [2, 64]), (0x460, tensor 0x2800 5 [8] [4]), (0x480, tensor 0x2900 5 [5] [4]),
    (0x1800, [2, 0, 1, 2, 3, 0, 0, 1]), (0x4000, [1]), (0x4040, [2]), (0x4080, [3]), (0x40C0, [4])].foldl
    (fun s p => withMem s p.1 p.2) (prog (wd [(0, 0x31), (24, 32), (38, 33), (52, 34), (66, 35), (80, 36), (94, 3), (98, 1), (99, 3)]))
theorem test_routing_lists :
    let t := after (.vcmp 0) mRoute
    (List.range 8).map (fun i => leNat (t.stack.mem.read (0x2800 + 4 * i) 4)) = [1, 5, 6, 2, 7, 0, 3, 4] ∧
    (List.range 5).map (fun i => leNat (t.stack.mem.read (0x2900 + 4 * i) 4)) = [0, 3, 5, 7, 8] ∧
    t.reg (kCnt 0 3) = 0 ∧ (after (.veDone 0) t).reg (kCnt 0 3) = 8 := by
  decide +kernel
/-- The weighted return of the same example. -/
def mReturn : State :=
  [(0x400, tensor 0x3000 0 [1, 8] [4, 4]), (0x420, tensor 0x2800 5 [8] [4]), (0x440, tensor 0x4000 0 [1, 2, 4] [4, 0, 4]),
    (0x480, tensor 0x3800 0 [8] [4]), (0x2800, [1, 5, 6, 2, 7, 0, 3, 4].flatMap (leBytes 4)), (0x4000, [7]),
    (0x3000, [0x3F800000, 0x40000000, 0x3F000000, 0x40800000, 0xBF800000, 0x40400000, 0x41000000, 0x3E800000].flatMap (leBytes 4)),
    (0x3800, [0x3E800000, 0x3F000000, 0x3F000000, 0x3F000000, 0x3F000000, 0x3F400000, 0x3F000000, 0x3F000000].flatMap
      (leBytes 4))].foldl
    (fun s p => withMem s p.1 p.2) (prog (wd [(0, 0x32), (24, 32), (38, 33), (52, 36), (66, 34), (85, 2), (87, 1)]))
theorem test_weighted_return : (List.range 4).map (fun i => leNat ((after (.vexp 0) mReturn).stack.mem.read (0x4000 + 4 * i) 4)) =
    [0x40200000, 0x40C00000, 0x3F900000, 0xBE800000] := by decide +kernel

/-- Distances of quay 62 (spec/01_harbour_layout.md), and port 13's where the router at (5,1) is bad. -/
def charted : State := { State.reset with distValid := true }
theorem test_distances : [13, 0, 6, 8].map (fun p => charted.portDistByte 62 p % 32) = [4, 6, 11, 14] ∧
    charted.portDistByte 62 13 = 0x84 ∧ charted.portDistByte 62 0 = 0x86 := by decide +kernel
theorem test_detour : ({ charted with rbad := 1 <<< 61 } : State).portDistByte 62 13 = 0xA6 := by decide +kernel
/-- Quay 42, context offset 0x90_5340 as a stack and as a BAR2 address (spec/05_memories.md). -/
theorem test_addresses : stackAddr 42 2 0x905340 = 0xAA0905340 ∧ State.reset.bar2Place 0x2A0905340 64 = some 0xAA0905340 := by
  decide +kernel
/-- A MOV of quay 90 out of a container of another tenant (spec/16_tenancy_and_trust.md). -/
def mCross : State :=
  let w := wd [(0, 0x10), (24, 0xAA0905340 / 64), (56, stackAddr 90 0 0 / 64)]
  (withQuay (withRegs { State.reset with
    stack := { Stack.init with container := 36864, logbook := Mem.write [] (logAddr 90 0) (leBytes 16 w.toNat) } }
    [(qkey 90 8, 1), (qkey 90 0x40, 2 ^ 30 + 9), (qkey 42 0x40, 2 ^ 30 + 7)]) 90 runner).setTag 42 256 0x8007
theorem test_cross_tenant :
    movRefused 90 mCross 0 [(0xAA0905340, stackAddr 90 0 0)] = some (0, 0xAA0905340) ∧ memInfo 0xAA0905340 = 0x20905340 := by
  decide +kernel
theorem test_tag_word : (after (.loRead .pilot 0x02540200 4) mCross).out = [.readDone [0x07, 0x80, 0, 0]] := by decide +kernel

/-- The extension in Stillwater of spec/08_tide_and_chart.md: boundary 1,000 at T, five retries on port 5. -/
def tideT : Nat := 0x0A000000
def mSlack (p : Nat) (retries : Nat) : State :=
  { withRegs State.reset [(0x100004, 4)] with
    tide := { Tide.init with chart := some { plainChart with period := 25, decide := 8, slackRetry := 3, extStep := 1, extMax := 16 },
                             base := w64 (tideT + 4000) },
    c64 := [(0x100030, 1000), (0x100038, w64 (tideT + 4000)), (0x1C00000, w64 (tideT + 10))],
    ports := [(p, { Port.init with st := .up, retries := retries })] }
theorem test_extension :
    let s := after .decisionPoint (mSlack 5 5)
    let t := after .applyPoint s
    s.now.toNat = tideT + 2720 ∧ t.now.toNat = tideT + 3840 ∧ t.nextBnd = 0x0A0010E0 ∧
    t.extLog = [{ ts := 0x0A000AA0, w2 := 0x85000002, w3 := 0x3E9 }] ∧ (after .armingPoint t).now.toNat = tideT + 4256 := by
  decide +kernel
theorem test_extension_notice :
    (after .applyPoint (after .decisionPoint (after (.extensionNoticeRx 3 1001 2 (w64 (tideT + 2720)) false) (mSlack 3 0)))).extLog =
      [{ ts := 0x0A000AA0, w2 := 0x90000002, w3 := 0x3E9 }] := by decide +kernel

/-- One exchange on uplink port 7 (spec/09_fider_links.md), in 1/16 ns. -/
def mExchange : State :=
  { withRegs State.reset [(kTb 8, 2 + 7 * 16), (kTb 0xC, 2)] with
    ports := [(7, { Port.init with st := .up })], time := { Time.init with t1 := some (16 * tideT) } }
theorem test_exchange :
    let t := after (.syncRspRx 7 false (16 * tideT + 840) (16 * tideT + 960) (16 * tideT + 1752)) mExchange
    t.reg (kTb 0x1C) = 816 ∧ t.reg (kTb 0x18) = 24 ∧ t.time.slew = 24 ∧ t.tbState = 2 := by decide +kernel

/-- The sync of spec/12_stillwater.md: ports 2 to 15 are UP, 0 and 1 in RECOVERY. -/
def mSync : State :=
  let s := { withRegs State.reset [(kTb 0xC, 2), (kTb 0x48, 0x3B9ACA00)] with
    c64 := [(0x1C00000, 999000000)],
    ports := (List.range 16).map (fun p => (p, { Port.init with st := if p < 2 then .recovery else .up })) }
  [Instr.swsArm, .swsClose, .swsQuietCheck, .swsDividerRestart, .swsFifoReset, .swsMarkerSend, .swsLatencyFix].foldl
    (fun s c => after c s) s
theorem test_sync : (mSync.now, mSync.out.length) = (1000000600, 14) ∧ (after .swsReopen mSync).reg (kTb 0x44) = 0xFFFC0009 := by
  decide +kernel
theorem test_realign :
    let s := after .swsReopen mSync
    let t := after (.portRealign 0)
      { s with c64 := [(0x1C00000, 1000400020)], ports := [(0, { Port.init with st := .up, upAt := 1000400020 })] }
    (t.now, t.reg (kTb 0x44)) = (1000401050, 0xFFFD0009) := by decide +kernel

/-- A wake races entry into S1 (spec/13_power_and_breakwater.md). -/
theorem test_latched_wake :
    let s := { withRegs (fallingAsleep .s1 2 600 650) [(kAon 8, 0x303)] with
               c64 := [(0x1C00000, 0x40000000)],
               board := { Board.init with pins := [(6, { fn := 5, next := none, out := false })] } }
    let t := after (.pinWake 6) (s.passTo 0x40002EE0)
    let u := after .sleepEntryDone t
    t.wakeLog = [{ ts := 0x40002EE0, w2 := 0x90000083, w3 := 1 }] ∧ u.reg (kAon 0xC) = 0x283 ∧
    u.cnt64 (kAon 0x10) = 0x40002EE0 ∧ u.power.st = .exiting := by decide +kernel

/-- The chain one level too deep of spec/18_host_interface.md, on channel 2 at level 4. -/
theorem test_chain_depth :
    let s := { withRegs State.reset [(dkey 2 0, 1), (dkey 2 4, 0x41), (dkey 2 0x10, 6), (dkey 2 0x14, 9), (dkey 2 0x18, 5)] with
               chans := [(2, { Chan.init with busy := true, ran := 5, stack := [4, 3, 2, 1],
                                              calls := List.replicate 4 (false, 0), next := 0x4000010040 })] }
    let t := after (.descCall 2 (some (descr 2 0 0 0 0x6000 0))) s
    t.reg (dkey 2 4) = 0xC4000142 ∧ t.cnt64 (dkey 2 0x24) = 0x4000010040 ∧ t.reg (kNoteStat 11) = 4 ∧ t.dmaHead 2 = 5 := by
  decide +kernel

/-- One address, two requesters (spec/19_register_map.md): PATCH_CTRL of quay 5 holds HOLD. -/
def mPatch (mode : Nat) : State := withRegs State.reset [(qkey 5 0x30, 1), (0x400, mode)]
theorem test_two_requesters : (after (.loRead .host 0x851000 4) (mPatch 0x50)).reg 0x404 = 0xC0000003 ∧
    (after (.loRead .host 0x851000 4) (mPatch 0x50)).reg 0x408 = 0x851000 ∧
    (after (.loRead .pilot 0x851000 4) (mPatch 0x50)).reg 0x404 = 0 := by decide +kernel
theorem test_clear_window : (after (.regWrite .pilot 0x858030 (fullWord 1)) (mPatch 0x50)).reg (qkey 5 0x30) = 0 ∧
    (after (.regWrite .pilot 0x858030 (fullWord 1)) (mPatch 0x70)).reg (qkey 5 0x30) = 1 ∧
    (after (.regWrite .host 0x858030 (fullWord 1)) (mPatch 0x70)).out = [.aer] := by decide +kernel

/-- B6 goes from GPIO_OUT to STROBE_IN at an aclk edge (spec/20_module_hardware.md). -/
def mStrobe : State :=
  after (.pinCfg 6 7) { State.reset with
    board := { Board.init with pins := [(6, { fn := 2, next := none, out := true })] }, c64 := [(0x1C00000, 0x20000000)],
    time := { Time.init with aclk := 2 } }
theorem test_parked_pin : (after (.strobeInEdge 6) (mStrobe.pass 25)).board.strobe = mStrobe.board.strobe ∧
    (after (.pinParkEnd 6) mStrobe).now = 0x20000028 := by decide +kernel
theorem test_strobe : (after (.strobeInEdge 6) ((after (.pinParkEnd 6) mStrobe).pass 33)).board.strobe = 0x20000046 := by
  decide +kernel


end Sys2Proof.Tests
end

section
/-! Proofs about the accumulator arithmetic (spec/02_arithmetic.md, R34 to R39): the rounding of a product against its exact
quotient, what one product does to an element, and the addition of elements. -/

namespace Sys2Proof.Machine

/-! ### Rounding to the nearest integer, ties to even -/

/-- `n` is the integer nearest to `r`, the even one at a tie (R36 step 2). -/
def NearestEven (n : ℤ) (r : ℚ) : Prop := |(n : ℚ) - r| ≤ 1 / 2 ∧ (|(n : ℚ) - r| = 1 / 2 → Even n)

theorem NearestEven.intCast (n : ℤ) : NearestEven n (n : ℚ) := by
  simp [NearestEven]

theorem NearestEven.neg {n : ℤ} {r : ℚ} (h : NearestEven n r) : NearestEven (-n) (-r) := by
  have hd : |((-n : ℤ) : ℚ) - -r| = |(n : ℚ) - r| := by
    rw [← abs_neg]; congr 1; push_cast; ring
  rw [NearestEven, hd, even_neg]
  exact h

/-- A number above a half of its unit rounds up, one below it down, and a half goes to the even side. -/
theorem NearestEven.of_floor {r : ℚ} (up : Prop) [Decidable up]
    (hup : up ↔ 1 / 2 < Int.fract r ∨ (Int.fract r = 1 / 2 ∧ Odd ⌊r⌋)) : NearestEven (if up then ⌊r⌋ + 1 else ⌊r⌋) r := by
  have hr := Int.self_sub_floor r
  have h1 := Int.fract_lt_one r
  have h0 := Int.fract_nonneg r
  split
  · have hd : |((⌊r⌋ + 1 : ℤ) : ℚ) - r| = 1 - Int.fract r := by
      rw [abs_of_nonneg] <;> push_cast <;> linarith
    rw [NearestEven, hd]
    rcases hup.1 ‹up› with hf | ⟨hf, hodd⟩
    · exact ⟨by linarith, fun he => absurd he (by linarith)⟩
    · exact ⟨by linarith, fun _ => hodd.add_one⟩
  · have hd : |(⌊r⌋ : ℚ) - r| = Int.fract r := by
      rw [abs_of_nonpos] <;> linarith
    have hdown := hup.not.1 ‹¬ up›
    rw [not_or, not_and, not_lt, Int.not_odd_iff_even] at hdown
    rw [NearestEven, hd]
    exact hdown

/-- The rounding is exact only for an integer. -/
theorem NearestEven.eq_iff_fract {n : ℤ} {r : ℚ} (h : NearestEven n r) : (n : ℚ) = r ↔ Int.fract r = 0 := by
  refine ⟨fun he => he ▸ Int.fract_intCast n, fun h0 => ?_⟩
  obtain ⟨k, rfl⟩ := Int.fract_eq_zero_iff.1 h0
  have hlt : |(n : ℚ) - k| < 1 := lt_of_le_of_lt h.1 (by norm_num)
  have hz : |n - k| < 1 := by exact_mod_cast hlt
  rw [Int.abs_lt_one_iff, sub_eq_zero] at hz
  rw [hz]

/-- The rounded integer reaches an even limit exactly from half a unit below it (R36, the bound before rounding). -/
theorem NearestEven.even_le_abs_iff {n N : ℤ} {r : ℚ} (h : NearestEven n r) (hN : Even N) :
    N ≤ |n| ↔ (N : ℚ) - 1 / 2 ≤ |r| := by
  obtain ⟨hnear, htie⟩ := h
  have habs : |(|(n : ℚ)| - |r|)| ≤ |(n : ℚ) - r| := abs_abs_sub_abs_le _ _
  constructor
  · intro hle
    have hq : (N : ℚ) ≤ |(n : ℚ)| := by exact_mod_cast hle
    linarith [(abs_le.1 (habs.trans hnear)).2]
  · intro hle
    by_contra hlt
    have hn : |n| + 1 ≤ N := by omega
    have hq : |(n : ℚ)| + 1 ≤ N := by exact_mod_cast hn
    have hlow := (abs_le.1 habs).1
    have heven : Even n := htie (le_antisymm hnear (by linarith))
    have hge : (N : ℚ) ≤ |(n : ℚ)| + 1 := by linarith
    have hN1 : N = |n| + 1 := le_antisymm (by exact_mod_cast hge) hn
    exact Int.not_even_iff_odd.2 (even_abs.2 heven).add_one (hN1 ▸ hN)

/-! ### `roundShift` to nearest -/

/-- No bits are lost where the shift is to the left. -/
theorem roundShift_of_nonpos (mode : RMode) (m : Nat) {sh : Int} (h : sh ≤ 0) :
    roundShift mode m sh = (m * 2 ^ sh.natAbs, false) := by
  simp [roundShift, h, Nat.shiftLeft_eq]

/-- Rounding over n + 1 bits to the right, by the quotient and the remainder. -/
theorem roundShift_rne_succ (m n : Nat) : roundShift .rne m ((n + 1 : Nat) : Int) =
    (if 2 ^ n < m % 2 ^ (n + 1) ∨ (m % 2 ^ (n + 1) = 2 ^ n ∧ Odd (m / 2 ^ (n + 1)))
      then m / 2 ^ (n + 1) + 1 else m / 2 ^ (n + 1), decide (m % 2 ^ (n + 1) ≠ 0)) := by
  have hsh : ¬ ((n + 1 : Nat) : Int) ≤ 0 := by omega
  unfold roundShift
  rw [if_neg hsh]
  by_cases h0 : m % 2 ^ (n + 1) = 0
  · have hpos : 0 < 2 ^ n := Nat.two_pow_pos n
    simp [h0, Nat.shiftRight_eq_div_pow, hpos.ne]
  · simp [h0, Nat.shiftRight_eq_div_pow, Nat.odd_iff]

/-- A shift to the left, or one over n + 1 bits to the right. -/
theorem nonpos_or_eq_succ (sh : Int) : sh ≤ 0 ∨ ∃ n : Nat, sh = ((n + 1 : Nat) : Int) := by
  rcases le_or_gt sh 0 with h | h
  · exact .inl h
  · exact .inr ⟨(sh - 1).toNat, by omega⟩

/-- The exact quotient of a shift to the left. -/
theorem div_two_zpow_of_nonpos (m : Nat) {sh : Int} (h : sh ≤ 0) : (m : ℚ) / 2 ^ sh = ((m * 2 ^ sh.natAbs : Nat) : ℤ) := by
  obtain ⟨k, rfl⟩ : ∃ k : Nat, sh = -(k : Int) := ⟨sh.natAbs, by omega⟩
  simp

theorem floor_div_two_pow (m n : Nat) : ⌊(m : ℚ) / 2 ^ n⌋ = ((m / 2 ^ n : Nat) : ℤ) := by
  exact_mod_cast Rat.floor_natCast_div_natCast m (2 ^ n)

theorem fract_div_two_pow (m n : Nat) : Int.fract ((m : ℚ) / 2 ^ n) = ((m % 2 ^ n : Nat) : ℚ) / 2 ^ n := by
  exact_mod_cast Int.fract_div_natCast_eq_div_natCast_mod (k := ℚ) (m := m) (n := 2 ^ n)

/-- `roundShift` gives the integer nearest to the exact quotient, ties to even (R36 step 2). -/
theorem roundShift_rne_nearestEven (m : Nat) (sh : Int) : NearestEven (roundShift .rne m sh).1 (m / 2 ^ sh) := by
  obtain hsh | ⟨n, rfl⟩ := nonpos_or_eq_succ sh
  · rw [roundShift_of_nonpos _ _ hsh, div_two_zpow_of_nonpos m hsh]
    exact NearestEven.intCast _
  · rw [roundShift_rne_succ, zpow_natCast, Nat.cast_ite, Nat.cast_succ, ← floor_div_two_pow]
    refine NearestEven.of_floor _ ?_
    have h2 : (2 : ℚ) ^ (n + 1) = 2 ^ n * 2 := pow_succ 2 n
    have hpos : (0 : ℚ) < 2 ^ n := by positivity
    rw [fract_div_two_pow, floor_div_two_pow, Int.odd_coe_nat]
    refine or_congr ?_ (and_congr_left' ?_)
    · rw [h2, lt_div_iff₀ (by positivity), ← Nat.cast_lt (α := ℚ)]
      push_cast
      ring_nf
    · rw [h2, div_eq_iff (by positivity), ← Nat.cast_inj (R := ℚ)]
      push_cast
      ring_nf

/-- `roundShift` tells exactly whether the quotient is no integer (R36 step 2). -/
theorem roundShift_rne_lost_iff (m : Nat) (sh : Int) :
    (roundShift .rne m sh).2 = true ↔ ((roundShift .rne m sh).1 : ℚ) ≠ m / 2 ^ sh := by
  have hexact := (roundShift_rne_nearestEven m sh).eq_iff_fract
  rw [Int.cast_natCast] at hexact
  rw [ne_eq, hexact]
  obtain hsh | ⟨n, rfl⟩ := nonpos_or_eq_succ sh
  · rw [roundShift_of_nonpos _ _ hsh, div_two_zpow_of_nonpos m hsh, Int.fract_intCast]
    simp
  · rw [roundShift_rne_succ, zpow_natCast, fract_div_two_pow]
    simp

/-! ### Signed significands -/

theorem cast_sgn (neg : Bool) (m : Nat) : (sgn neg m : ℚ) = if neg then -(m : ℚ) else m := by
  cases neg <;> simp [sgn]

@[simp] theorem abs_sgn (neg : Bool) (m : Nat) : |sgn neg m| = m := by
  cases neg <;> simp [sgn]

theorem sgn_mul_sgn (n1 n2 : Bool) (m1 m2 : Nat) : sgn n1 m1 * sgn n2 m2 = sgn (n1 != n2) (m1 * m2) := by
  cases n1 <;> cases n2 <;> simp [sgn]

theorem nearestEven_sgn {n m : Nat} {d : ℚ} (neg : Bool) (h : NearestEven n (m / d)) :
    NearestEven (sgn neg n) (sgn neg m / d) := by
  cases neg
  · exact h
  · simpa [sgn, neg_div] using h.neg

/-! ### What one product does to an element (R34, R36) -/

/-- The rounded integer of a product ± m × 2^e under anchor a, before the limit of R36 is looked at. -/
def rounded (a : Int) (neg : Bool) (m : Nat) (e : Int) : Int := sgn neg (roundShift .rne m (a - 96 - e)).1

/-- The events and the integer of a finite product, by its rounded integer (R36 step 3). -/
theorem place_eq (a : Int) (neg : Bool) (m : Nat) (e : Int) : place a neg m e =
    (if 2 ^ 112 ≤ |rounded a neg m e| then 0 else rounded a neg m e, decide (2 ^ 112 ≤ |rounded a neg m e|),
      (roundShift .rne m (a - 96 - e)).2) := by
  have hlim : 2 ^ 112 ≤ |rounded a neg m e| ↔ 2 ^ 112 ≤ (roundShift .rne m (a - 96 - e)).1 := by
    rw [rounded, abs_sgn]
    norm_cast
  simp only [hlim, place]
  by_cases h : 2 ^ 112 ≤ (roundShift .rne m (a - 96 - e)).1
  · rw [if_pos h, if_pos h, decide_eq_true h]
  · rw [if_neg h, if_neg h, decide_eq_false h, rounded]

theorem div_anchor (a e : Int) (x : ℚ) : x * 2 ^ e / 2 ^ (a - 96) = x / 2 ^ (a - 96 - e) := by
  rw [zpow_sub₀ two_ne_zero (a - 96) e, div_div_eq_mul_div]

/-- The rounded integer of a finite product p is the one nearest to p ÷ 2^(a − 96), ties to even (R36 step 2). -/
theorem rounded_nearestEven (a : Int) (neg : Bool) (m : Nat) (e : Int) :
    NearestEven (rounded a neg m e) ((sgn neg m : ℚ) * 2 ^ e / 2 ^ (a - 96)) := by
  rw [div_anchor]
  exact nearestEven_sgn neg (roundShift_rne_nearestEven m (a - 96 - e))

/-- INX of a product: its rounding discards a fraction (R36 step 2). -/
theorem place_inx_iff (a : Int) (neg : Bool) (m : Nat) (e : Int) :
    (place a neg m e).2.2 = true ↔ (rounded a neg m e : ℚ) ≠ (sgn neg m : ℚ) * 2 ^ e / 2 ^ (a - 96) := by
  rw [place_eq, roundShift_rne_lost_iff, div_anchor, rounded, cast_sgn, cast_sgn]
  cases neg
  · rfl
  · simp [neg_div]

/-- The limit of R36 before rounding: |p| against 2^(a+16) − 2^(a−97). -/
theorem NearestEven.limit_iff {n a : Int} {p : ℚ} (h : NearestEven n (p / 2 ^ (a - 96))) :
    (2 : ℚ) ^ (a + 16) - 2 ^ (a - 97) ≤ |p| ↔ 2 ^ 112 ≤ |n| := by
  have hpos : (0 : ℚ) < 2 ^ (a - 96) := by positivity
  have hscale : (2 : ℚ) ^ (a + 16) - 2 ^ (a - 97) = (2 ^ 112 - 1 / 2) * 2 ^ (a - 96) := by
    rw [show a + 16 = 112 + (a - 96) by ring, show a - 97 = -1 + (a - 96) by ring, zpow_add₀ two_ne_zero,
      zpow_add₀ two_ne_zero, ← sub_mul]
    norm_num
  rw [h.even_le_abs_iff (by decide), hscale, abs_div, abs_of_pos hpos, le_div_iff₀ hpos]
  norm_cast

/-- A finite product adds its rounded integer, or nothing where that reaches the limit, and ORs its events (R36, R37). -/
theorem AccElem.addProduct_fin (x : AccElem) (a : Int) (neg : Bool) (m : Nat) (e : Int) :
    x.addProduct a (.fin neg m e) =
      { x with a := if 2 ^ 112 ≤ |rounded a neg m e| then x.a else x.a + BitVec.ofInt 128 (rounded a neg m e)
               ovf := x.ovf || decide (2 ^ 112 ≤ |rounded a neg m e|), inx := x.inx || (place a neg m e).2.2 } := by
  simp only [AccElem.addProduct, place_eq]
  split <;> simp

@[simp] theorem AccElem.addProduct_nan (x : AccElem) (a : Int) : x.addProduct a .nan = { x with nf := true } := rfl

/-- A product with a factor that is not finite is no number, whatever the other factor (R34). -/
theorem mulVal_of_not_finite {v w : Val} (h : v = .nan ∨ w = .nan ∨ ∃ g, v = .inf g ∨ w = .inf g) : mulVal v w = .nan := by
  rcases h with rfl | rfl | ⟨g, rfl | rfl⟩
  · rfl
  · cases v <;> rfl
  · rfl
  · cases v <;> rfl

/-! ### The events of a row in ACC_STATUS (R48) -/

/-- Three events side by side, OVF lowest. -/
theorem eventBits_testBit (ovf inx nf : Bool) (j : Nat) : (bit ovf + 2 * bit inx + 4 * bit nf).testBit j =
    ((decide (j = 0) && ovf) || (decide (j = 1) && inx) || (decide (j = 2) && nf)) := by
  match j with
  | 0 | 1 | 2 => revert ovf inx nf; decide
  | j + 3 =>
    have hv : bit ovf + 2 * bit inx + 4 * bit nf < 2 ^ 3 := by revert ovf inx nf; decide
    have hj : 2 ^ 3 ≤ 2 ^ (j + 3) := Nat.pow_le_pow_right (by decide) (by omega)
    rw [Nat.testBit_lt_two_pow (hv.trans_le hj)]
    simp

/-- The bits of ACC_STATUS that events of crane c set: OVF, INX and NF at 4c, 4c + 1 and 4c + 2. -/
theorem accBits_testBit (c i : Nat) (ovf inx nf : Bool) : (accBits c ovf inx nf).testBit i =
    ((decide (i = 4 * c) && ovf) || (decide (i = 4 * c + 1) && inx) || (decide (i = 4 * c + 2) && nf)) := by
  rw [accBits, Nat.testBit_mul_two_pow, eventBits_testBit]
  by_cases hlow : 4 * c ≤ i
  · obtain ⟨j, rfl⟩ := Nat.exists_eq_add_of_le hlow
    simp
  · simp [hlow, show ¬ i = 4 * c by omega, show ¬ i = 4 * c + 1 by omega, show ¬ i = 4 * c + 2 by omega]

/-- A row that takes products writes, of the registers, ACC_STATUS alone, which their events are ORed into (R48). -/
theorem takeRow_reg (q c m : Nat) (ow : Bool) (a : Int) (d : List AccElem) (s : State) (k : Nat) :
    (takeRow q c m ow a d s).reg k = if qkey q 0x180 = k then
      s.reg k ||| w32 (accBits c (d.any (·.ovf)) (d.any (·.inx)) (d.any (·.nf))) else s.reg k := by
  simp only [takeRow, State.elemStatus, State.accStatus, State.orReg_eq, State.reg_setReg, State.setQuay_reg]
  split <;> simp [*]

/-! ### Elements under addition (R37, R45) -/

theorem AccElem.addElem_assoc (x y z : AccElem) : (x.addElem y).addElem z = x.addElem (y.addElem z) := by
  simp [AccElem.addElem, BitVec.add_assoc, Bool.or_assoc]

theorem AccElem.addElem_comm (x y : AccElem) : x.addElem y = y.addElem x := by
  simp [AccElem.addElem, BitVec.add_comm, Bool.or_comm]

@[simp] theorem AccElem.addElem_init (x : AccElem) : x.addElem .init = x := by
  simp [AccElem.addElem, AccElem.init]

/-- A product's effect is that of adding an element which took it alone: it does not depend on what was there (R37). -/
theorem AccElem.addProduct_eq_addElem (x : AccElem) (a : Int) (p : Val) :
    x.addProduct a p = x.addElem (AccElem.init.addProduct a p) := by
  cases p <;> simp [AccElem.addProduct, AccElem.addElem, AccElem.init]

theorem AccElem.addProduct_right_comm (x : AccElem) (a : Int) (p p' : Val) :
    (x.addProduct a p).addProduct a p' = (x.addProduct a p').addProduct a p := by
  rw [addProduct_eq_addElem _ a p', addProduct_eq_addElem x a p, addElem_assoc, addElem_comm (AccElem.init.addProduct a p),
    ← addElem_assoc, ← addProduct_eq_addElem, ← addProduct_eq_addElem]

/-- The accumulation of a list of products under anchor a. -/
def AccElem.addProducts (x : AccElem) (a : Int) (ps : List Val) : AccElem := ps.foldl (fun e p => e.addProduct a p) x

theorem AccElem.addProducts_perm (x : AccElem) (a : Int) {ps qs : List Val} (h : ps.Perm qs) :
    x.addProducts a ps = x.addProducts a qs :=
  h.foldl_eq' (fun p _ p' _ y => y.addProduct_right_comm a p p') x

theorem AccElem.addProducts_eq_addElem (x : AccElem) (a : Int) (ps : List Val) :
    x.addProducts a ps = x.addElem (AccElem.init.addProducts a ps) := by
  induction ps generalizing x with
  | nil => exact x.addElem_init.symm
  | cons p ps ih =>
    calc (x.addProduct a p).addProducts a ps
        = (x.addElem (AccElem.init.addProduct a p)).addElem (AccElem.init.addProducts a ps) := by
          rw [ih, ← addProduct_eq_addElem]
      _ = x.addElem ((AccElem.init.addProduct a p).addProducts a ps) := by
          rw [addElem_assoc, ← ih]

/-- The integer that a product adds, where it is finite and passes the limit of R36. -/
def addedInt (a : Int) : Val → Option Int
  | .fin g m e => if (place a g m e).2.1 then none else some (place a g m e).1
  | _ => none

theorem addedInt_fin (a : Int) (g : Bool) (m : Nat) (e : Int) :
    addedInt a (.fin g m e) = if 2 ^ 112 ≤ |rounded a g m e| then none else some (rounded a g m e) := by
  simp only [addedInt, place_eq, decide_eq_true_eq]
  split <;> rfl

theorem AccElem.addProduct_a (x : AccElem) (a : Int) (p : Val) :
    (x.addProduct a p).a = x.a + BitVec.ofInt 128 ((addedInt a p).getD 0) := by
  cases p with
  | fin g m e =>
    rw [AccElem.addProduct_fin, addedInt_fin]
    split <;> simp
  | nan | inf => simp [AccElem.addProduct, addedInt]

/-- Modulo 2^128, an accumulation adds the sum of the integers that its products add (R37). -/
theorem AccElem.addProducts_a (x : AccElem) (a : Int) (ps : List Val) :
    (x.addProducts a ps).a = x.a + BitVec.ofInt 128 (ps.filterMap (addedInt a)).sum := by
  induction ps generalizing x with
  | nil => simp [addProducts]
  | cons p ps ih =>
    have hp : (x.addProducts a (p :: ps)).a = (x.addProduct a p).a + BitVec.ofInt 128 (ps.filterMap (addedInt a)).sum := ih _
    rw [hp, addProduct_a, List.filterMap_cons]
    cases addedInt a p <;> simp [BitVec.ofInt_add, BitVec.add_assoc]

/-- Each integer that a product adds has passed the limit of R36. -/
theorem abs_le_of_addedInt {a n : Int} {p : Val} (h : addedInt a p = some n) : |n| ≤ 2 ^ 112 - 1 := by
  cases p with
  | fin g m e =>
    rw [addedInt_fin] at h
    split at h
    · cases h
    · cases h; omega
  | nan | inf => cases h

/-- The true sum of products that pass the limit of R36 grows by less than 2^112 with each. -/
theorem abs_sum_addedInt_le (a : Int) (ps : List Val) :
    |(ps.filterMap (addedInt a)).sum| ≤ (ps.filterMap (addedInt a)).length * (2 ^ 112 - 1) := by
  have hmem : ∀ n ∈ ps.filterMap (addedInt a), |n| ≤ 2 ^ 112 - 1 := fun n hn =>
    have ⟨_, _, hp⟩ := List.mem_filterMap.1 hn
    abs_le_of_addedInt hp
  have hup := List.sum_le_card_nsmul _ _ fun n hn => (abs_le.1 (hmem n hn)).2
  have hlow := List.card_nsmul_le_sum _ _ fun n hn => (abs_le.1 (hmem n hn)).1
  rw [nsmul_eq_mul] at hup hlow
  exact abs_le.2 ⟨by linarith, hup⟩

/-- The integer of an accumulation is the true sum where that lies in −2^127 to 2^127 − 1 (R37). -/
theorem toInt_addProducts_init {a : Int} {ps : List Val} (hlow : -(2 ^ 127) ≤ (ps.filterMap (addedInt a)).sum)
    (hup : (ps.filterMap (addedInt a)).sum < 2 ^ 127) :
    (AccElem.init.addProducts a ps).a.toInt = (ps.filterMap (addedInt a)).sum := by
  have hzero : AccElem.init.a = 0#128 := rfl
  rw [AccElem.addProducts_a, hzero, BitVec.zero_add, BitVec.toInt_ofInt_eq_self (by decide) hlow hup]

/-! ### The statements -/

/-- Settles O9: a finite product is placed by its rounded integer, which is the nearest to the exact quotient, so that the
limit on the integer is the limit of R36 on the product; the events reach ACC_STATUS as `accBits` lays them out. -/
theorem productsArePlaced : Obligations.ProductsArePlaced := by
  unfold Obligations.ProductsArePlaced
  intro x a
  refine ⟨fun v w h => by rw [mulVal_of_not_finite h, AccElem.addProduct_nan],
    fun v => ⟨mulVal_of_not_finite (.inr (.inl rfl)), mulVal_of_not_finite (.inr (.inl rfl))⟩, ?_, ?_⟩
  · intro n1 n2 m1 m2 e1 e2 p r y
    have hp : p = (sgn (n1 != n2) (m1 * m2) : ℚ) * 2 ^ (e1 + e2) := by
      rw [← sgn_mul_sgn, Int.cast_mul]
    have hnear := rounded_nearestEven a (n1 != n2) (m1 * m2) (e1 + e2)
    have hinx := place_inx_iff a (n1 != n2) (m1 * m2) (e1 + e2)
    have hy : y = _ := x.addProduct_fin a (n1 != n2) (m1 * m2) (e1 + e2)
    rw [← hp] at hnear hinx
    refine ⟨_, hnear.1, hnear.2, ?_, ?_, ?_, hnear.limit_iff, ?_⟩
    · rw [hy, Bool.or_eq_true, hinx]
    · rw [hy, Bool.or_eq_true, hnear.limit_iff, decide_eq_true_eq]
    · rw [hy]
    · rw [hy]
  · intro s q c m ow d _ t
    refine ⟨fun k hk => by rw [takeRow_reg, if_neg (Ne.symm hk)], fun i hi => ?_⟩
    rw [takeRow_reg, if_pos rfl, BitVec.getLsbD_or, w32, BitVec.getLsbD_ofNat, accBits_testBit]
    simp [hi, Bool.or_assoc]

/-- Settles O10: the addition of elements is associative and commutative, and each product adds one element of its own; the
integers added sum modulo 2^128, which is exact while the true sum fits. -/
theorem accumulationIsOrderFree : Obligations.AccumulationIsOrderFree := by
  unfold Obligations.AccumulationIsOrderFree
  intro a ps qs x run kept
  have hkept : kept = ps.filterMap (addedInt a) := by
    refine List.filterMap_congr fun p _ => ?_
    cases p <;> rfl
  refine ⟨x.addProducts_perm a, ?_, ?_, ?_⟩
  · have hsplit : run x (ps ++ qs) = run (run x ps) qs := List.foldl_append
    rw [hsplit]
    exact AccElem.addProducts_eq_addElem _ a qs
  · rw [hkept]
    exact toInt_addProducts_init
  · rw [hkept]
    intro hlen
    have habs := abs_le.1 (abs_sum_addedInt_le a ps)
    have hbound : ((ps.filterMap (addedInt a)).length : Int) * (2 ^ 112 - 1) ≤ 32768 * (2 ^ 112 - 1) :=
      mul_le_mul_of_nonneg_right (by exact_mod_cast hlen) (by norm_num)
    exact toInt_addProducts_init (by omega) (by omega)

end Sys2Proof.Machine
end

section
/-! Proofs about slack-water sync (spec/12_stillwater.md, R314 and R315): what the quiet check leaves, and a VCMP that sets
its counter in the time that passes up to the check. -/

namespace Sys2Proof.Machine

/-- The quiet check of an armed sync lets time pass to SWS_AT − 1,000 ns and then moves the stage alone (R314): the registers
it leaves are those that the passing time leaves. -/
theorem exec_swsQuietCheck_of_closed {s : State} (harmed : s.swsArmed = true) (hclosed : s.fabric.sws = .closed) :
    let u := s.passTo (s.fabric.swsAt - 1000)
    exec .swsQuietCheck s = .next (swsTo (if u.quiet then .quiet else .busy) u) := by
  have hat : s.fabric.swsAt - w64 1000 + w64 0 = s.fabric.swsAt - 1000 := BitVec.add_zero _
  show execSwsQuietCheck s = _
  simp only [execSwsQuietCheck, swsAction, harmed, hclosed, hat, decide_true, Bool.and_self, if_true]

/-- A VCMP 40 qclk after its start, whose scan ends at qclk 44 and then sets counter 5 to 3 (R150). -/
def scanningVcmp : VeJob :=
  { id := 4, index := 0, word := 0x31, latched := [], params := [], dur := 64, started := true, ran := 40,
    scan := some (44, 5, 3), frees := [] }

/-- A module at TB_NOW = SWS_AT − 2,000 ns, where its armed sync has closed ingress, with the VCMP on quay 0 in RUN. -/
def closedOverVcmp : State :=
  { (State.reset.setReg (kTb 0x44) 2).setReg (kTb 0x48) 12000 with
    c64 := [(kTbNow, 10000)], fabric := { Fabric.init with sws := .closed, swsAt := 12000 },
    quays := [(0, { Quay.init with st := .run, ve := some scanningVcmp })] }

/-- Its SWS_AT is the edge it was armed with. -/
theorem closedOverVcmp_swsAt : closedOverVcmp.fabric.swsAt = closedOverVcmp.pair (kTb 0x48) := by decide

theorem closedOverVcmp_armed : getBits (closedOverVcmp.reg (kTb 0x44)) 1 1 = 1 := by decide

/-- At SWS_AT − 1,000 ns quay 0 is still in RUN: the quiet check fails. -/
theorem closedOverVcmp_busy : (closedOverVcmp.passTo (closedOverVcmp.pair (kTb 0x48) - 1000)).quiet = false := by
  decide

/-- The 1,000 ns before the check end the scan, and counter 5 of quay 0 goes from 0 to 3. -/
theorem closedOverVcmp_counter : closedOverVcmp.reg (kCnt 0 5) = 0 ∧
    (closedOverVcmp.passTo (closedOverVcmp.pair (kTb 0x48) - 1000)).reg (kCnt 0 5) = 3 := by
  decide

/-- Refutes O40: its clause on a failed quiet check says `t.regs = s.regs`, which leaves out the 1,000 ns that pass before the
check. The failed check of `closedOverVcmp` leaves counter 5 of its running quay at 3, where it read 0. -/
theorem not_syncArming : ¬ Obligations.SyncArming := by
  unfold Obligations.SyncArming
  intro h
  obtain ⟨-, -, harmed, -⟩ := h closedOverVcmp
  obtain ⟨-, -, -, hcheck, -⟩ := harmed closedOverVcmp_armed closedOverVcmp_swsAt
  obtain ⟨t, ht, -, hregs⟩ := hcheck rfl closedOverVcmp_busy
  have hexec := exec_swsQuietCheck_of_closed (decide_eq_true closedOverVcmp_armed) (rfl : closedOverVcmp.fabric.sws = .closed)
  rw [closedOverVcmp_swsAt, ht] at hexec
  cases hexec
  obtain ⟨hbefore, hafter⟩ := closedOverVcmp_counter
  have hkept : (closedOverVcmp.passTo (closedOverVcmp.pair (kTb 0x48) - 1000)).reg (kCnt 0 5) =
      closedOverVcmp.reg (kCnt 0 5) := congrArg (fun r => tabGet r (kCnt 0 5) (resetOf (kCnt 0 5))) hregs
  rw [hbefore, hafter] at hkept
  exact absurd hkept (by decide)

end Sys2Proof.Machine
end

section
/-! Proofs about the error registers (spec/18_host_interface.md, R424 and R425): what a notification source shows, and what
an error leaves in HOST_ERR, ERR_ADDR and ERR_TS while VALID is 0 and while it is 1. -/

namespace Sys2Proof.Machine

variable (s : State)

/-! ### A notification source shows its status bit (R425) -/

/-- A vector raised writes pending bits alone, which lie above every NOTE_STATw. -/
theorem State.raiseVector_reg_of_lt (v : Nat) {k : Nat} (hk : k < 0x90000) : (s.raiseVector v).reg k = s.reg k := by
  have hpba : k ≠ 0x90000 + 4 * (v / 32) := by omega
  unfold State.raiseVector
  split
  · rfl
  · split
    · rw [State.orReg_eq, State.reg_setReg_ne' _ hpba]
    · rfl

theorem State.note_noted {i : Nat} (hi : i < 256) : (s.note i).noted i := by
  have hlow : kNoteStat (i / 16) < 0x90000 := by unfold kNoteStat; omega
  have hset : getBits (putBits (s.reg (kNoteStat (i / 16))) (i % 16) 1 1) (i % 16) 1 = 1 :=
    getBits_putBits _ _ _ _ (by omega)
  unfold State.note State.noted
  dsimp only
  split
  · rw [State.raiseVector_reg_of_lt _ _ hlow]; simpa using hset
  · simpa using hset

/-! ### HOST_ERR after an error (R424) -/

/-- HOST_ERR after an error: its flag is set, and VALID and CODE where VALID was 0, OVF where it was 1. -/
def errWord (x : W32) (code : Nat) : W32 :=
  let flagged := putBits x (errFlag code) 1 1
  if getBits x 0 1 = 0 then putBits (putBits flagged 24 8 code) 0 1 1 else putBits flagged 5 1 1

/-- The flags of HOST_ERR lie between VALID and OVF. -/
theorem errFlag_range (code : Nat) : 1 ≤ errFlag code ∧ errFlag code < 5 := by
  unfold errFlag
  split_ifs <;> decide

theorem errWord_flag (x : W32) (code : Nat) : getBits (errWord x code) (errFlag code) 1 = 1 := by
  have hf := errFlag_range code
  have hset : getBits (putBits x (errFlag code) 1 1) (errFlag code) 1 = 1 := getBits_putBits _ _ _ _ (by omega)
  unfold errWord
  dsimp only
  split
  · rw [getBits_putBits_apart _ _ _ _ _ _ (by omega), getBits_putBits_apart _ _ _ _ _ _ (by omega), hset]
  · rw [getBits_putBits_apart _ _ _ _ _ _ (by omega), hset]

theorem errWord_valid (x : W32) (code : Nat) : getBits (errWord x code) 0 1 = 1 := by
  have hf := errFlag_range code
  have hbit := getBits_lt x 0 1
  unfold errWord
  dsimp only
  split
  · exact getBits_putBits _ 0 1 1 (by decide)
  · rw [getBits_putBits_apart _ _ _ _ _ _ (by omega), getBits_putBits_apart _ _ _ _ _ _ (by omega)]
    omega

theorem errWord_code_of_clear {x : W32} (hx : getBits x 0 1 = 0) {code : Nat} (hcode : code < 2 ^ 8) :
    getBits (errWord x code) 24 8 = code := by
  simp only [errWord, if_pos hx]
  rw [getBits_putBits_apart _ 0 1 _ _ _ (by omega), getBits_putBits _ 24 8 _ (by decide), Nat.mod_eq_of_lt hcode]

theorem errWord_ovf_of_valid {x : W32} (hx : getBits x 0 1 = 1) (code : Nat) : getBits (errWord x code) 5 1 = 1 := by
  simp only [errWord, hx, one_ne_zero, if_false]
  exact getBits_putBits _ 5 1 1 (by decide)

theorem errWord_code_of_valid {x : W32} (hx : getBits x 0 1 = 1) (code : Nat) :
    getBits (errWord x code) 24 8 = getBits x 24 8 := by
  have hf := errFlag_range code
  simp only [errWord, hx, one_ne_zero, if_false]
  rw [getBits_putBits_apart _ 5 1 _ _ _ (by omega), getBits_putBits_apart _ _ _ _ _ _ (by omega)]

/-! ### ERR_ADDR_HI of a captured error (R424) -/

/-- ERR_ADDR_HI of an error: address bits [35:32], BAR in bit 8, and SRC in bit 9, 0 for the host alone. -/
def errAddrHi (rq : Req) (bar addr : Nat) : W32 := w32 (fld addr 32 4 + 256 * bar + 512 * (if rq = .host then 0 else 1))

theorem getBits_w32 {lo w : Nat} (n : Nat) (h : lo + w ≤ 32) : getBits (w32 n) lo w = n / 2 ^ lo % 2 ^ w := by
  have hsplit : 2 ^ 32 = 2 ^ lo * 2 ^ (32 - lo) := by rw [← pow_add]; congr 1; omega
  rw [getBits, fld, w32, BitVec.toNat_ofNat, Nat.shiftRight_eq_div_pow, hsplit, Nat.mod_mul_right_div_self,
    Nat.mod_mod_of_dvd _ (pow_dvd_pow 2 (by omega))]

/-- Each part of ERR_ADDR_HI reads back. -/
theorem errAddrHi_fields (rq : Req) {bar : Nat} (hbar : bar < 2) (addr : Nat) :
    getBits (errAddrHi rq bar addr) 0 4 = fld addr 32 4 ∧ getBits (errAddrHi rq bar addr) 8 1 = bar ∧
      getBits (errAddrHi rq bar addr) 9 1 = if rq = .host then 0 else 1 := by
  have haddr : fld addr 32 4 < 16 := Nat.mod_lt _ (by decide)
  have hsrc : (if rq = .host then 0 else 1) < 2 := by split <;> decide
  unfold errAddrHi
  rw [getBits_w32 _ (by decide), getBits_w32 _ (by decide), getBits_w32 _ (by decide)]
  omega

/-! ### What an error leaves (R424) -/

theorem State.hostErr_of_clear (h : getBits (s.reg 0x404) 0 1 = 0) (rq : Req) (code bar addr : Nat) :
    s.hostErr rq code bar addr =
      ((((((s.setField 0x404 (errFlag code) 1 1).setField 0x404 24 8 code).setField 0x404 0 1 1).setReg 0x408 (w32 addr)).setReg
        0x40C (errAddrHi rq bar addr)).setCnt64 0x410 s.now).note 171 := by
  unfold State.hostErr
  dsimp only
  rw [State.fieldAt_eq, if_pos h]
  rfl

theorem State.hostErr_of_valid (h : getBits (s.reg 0x404) 0 1 = 1) (rq : Req) (code bar addr : Nat) :
    s.hostErr rq code bar addr = ((s.setField 0x404 (errFlag code) 1 1).setField 0x404 5 1 1).note 171 := by
  unfold State.hostErr
  dsimp only
  rw [State.fieldAt_eq, if_neg (by omega)]

theorem State.hostErr_noted (rq : Req) (code bar addr : Nat) : (s.hostErr rq code bar addr).noted 171 :=
  State.note_noted _ (by decide)

theorem State.hostErr_reg_eq_errWord (rq : Req) (code bar addr : Nat) :
    (s.hostErr rq code bar addr).reg 0x404 = errWord (s.reg 0x404) code := by
  have hkey : noteKey 0x404 = false := by decide
  have hbit := getBits_lt (s.reg 0x404) 0 1
  obtain h | h : getBits (s.reg 0x404) 0 1 = 0 ∨ getBits (s.reg 0x404) 0 1 = 1 := by omega
  · rw [s.hostErr_of_clear h, State.note_reg _ (by decide) hkey]
    simp [errWord, h]
  · rw [s.hostErr_of_valid h, State.note_reg _ (by decide) hkey]
    simp [errWord, h]

/-- Every host-and-register error sets its flag and notifies source 171, and writes nothing but what an error may. -/
theorem State.hostErr_raises (rq : Req) (code bar addr : Nat) :
    s.raisesHostErr (s.hostErr rq code bar addr) (errFlag code) := by
  refine ⟨s.hostErr_frame .., ?_, s.hostErr_noted .., fun k hk => s.hostErr_reg _ _ _ _ hk⟩
  rw [s.hostErr_reg_eq_errWord]
  exact errWord_flag _ _

/-- An error with VALID 0 captures its address, its requester and its stamp. -/
theorem State.hostErr_captures (h : getBits (s.reg 0x404) 0 1 = 0) (rq : Req) (code bar addr : Nat) :
    (s.hostErr rq code bar addr).reg 0x408 = w32 addr ∧ (s.hostErr rq code bar addr).reg 0x40C = errAddrHi rq bar addr ∧
      (s.hostErr rq code bar addr).cnt64 0x410 = s.now := by
  rw [s.hostErr_of_clear h, State.note_reg _ (by decide) (k := 0x408) (by decide),
    State.note_reg _ (by decide) (k := 0x40C) (by decide)]
  simp

/-- An error with VALID 1 leaves ERR_ADDR and every stamp as they were. -/
theorem State.hostErr_keeps_capture (h : getBits (s.reg 0x404) 0 1 = 1) (rq : Req) (code bar addr : Nat) :
    (s.hostErr rq code bar addr).reg 0x408 = s.reg 0x408 ∧ (s.hostErr rq code bar addr).reg 0x40C = s.reg 0x40C ∧
      (s.hostErr rq code bar addr).c64 = s.c64 := by
  rw [s.hostErr_of_valid h, State.note_reg _ (by decide) (k := 0x408) (by decide),
    State.note_reg _ (by decide) (k := 0x40C) (by decide)]
  simp

/-- Settles O56, by cases on VALID: HOST_ERR holds `errWord` of what it held, the first error captures the rest, and a later
one leaves the capture as it was. -/
theorem firstErrorIsCaptured : Obligations.FirstErrorIsCaptured := by
  unfold Obligations.FirstErrorIsCaptured
  intro s rq code bar a hcode hbar _
  have hbyte : ∀ c ∈ [0xC0, 0xC1, 0xC2, 0xC8, 0xC9, 0xCA], c < 2 ^ 8 := by decide
  dsimp only
  rw [s.hostErr_reg_eq_errWord]
  refine ⟨s.hostErr_raises .., fun hclear => ?_, fun hvalid => ?_⟩
  · obtain ⟨hlo, hhi, hts⟩ := s.hostErr_captures hclear rq code bar a
    obtain ⟨haddr, hbit, hsrc⟩ := errAddrHi_fields rq hbar a
    rw [hhi]
    exact ⟨errWord_valid _ _, errWord_code_of_clear hclear (hbyte code hcode), hlo, haddr, hbit, hsrc, hts⟩
  · exact ⟨errWord_valid _ _, errWord_ovf_of_valid hvalid code, errWord_code_of_valid hvalid code,
      s.hostErr_keeps_capture hvalid rq code bar a⟩

end Sys2Proof.Machine
end
